-- ==== Sys2Proof/Word.lean ====
section
/-! DEFINITION. The words of the part: the byte that travels on the slot bus and at the local port, the 16-bit word of
events and flags, and the 64-bit serial. -/

namespace Sys2Proof

/-- One byte of a frame payload, a packet or a result (00_scope.md, "Byte order"; R182). -/
abbrev Byte := BitVec 8

/-- A 16-bit word: the event word (12_formats_and_signals.md, "The event word"), a held lane set, a CHECK value. -/
abbrev Half := BitVec 16

/-- Eight bytes as one word: the serial of a module (R10, R40), the value bytes of a CONFIGURE. -/
abbrev Word64 := BitVec 64

end Sys2Proof
end

