-- ==== Sys2Proof/Config.lean ====
section
/-! DEFINITION. What the part's build fixes, and the codes the spec leaves open. The configuration KEYS of R10 are
not here: they change under CONFIGURE and stand in State. -/

namespace Sys2Proof.Config

/-- Reference-clock ticks in one millisecond: REFCLK is 25 MHz (12_formats_and_signals.md, Pins). -/
def ticksPerMs : Nat := 25000

/-- Reference-clock ticks in one microsecond. -/
def ticksPerUs : Nat := 25

/-- Slots of one chassis bus (00_scope.md, "Slot"). -/
def slots : Nat := 48

/-- The settle time of R2, in milliseconds. -/
def settleMs : Nat := 20

/-- The listen window of R5, in milliseconds. -/
def listenMs : Nat := 2000

/-- Good frames that end LISTEN (R6). -/
def listenFrames : Nat := 8

/-- The debounce time of the ejector handle (R172), in milliseconds. -/
def debounceMs : Nat := 50

/-- The time from one conversion end to the next (R121), in milliseconds. -/
def conversionMs : Nat := 8

/-- The stall time of a rotor (R144), in milliseconds. -/
def stallMs : Nat := 1000

/-- The failure run that mutes a transmitter (R36) or gives up a removal's LEAVE (R35). -/
def failLimit : Nat := 16

/-- Rounds of MUTE (R36). -/
def muteRounds : Nat := 2

/-- Rounds of a supply's offline drain (R114). -/
def drainRounds : Nat := 2

/-- Bit times of a shed pulse (R37). -/
def pulseBits : Nat := 24

/-- Consecutive conversions over capacity that make an overload (R116). -/
def overloadLimit : Nat := 3

/-- Beats below which a thermal-view entry is fresh (R138). -/
def freshBeats : Nat := 4

/-- Sizes of the bounded queues: change queue (R56), request queue (R151), mail receive queue (R189), lane outbox and
mail outbox (R28), blade lane records (R164), lanes one slot may have (R149), records one READ_CHANGES returns (R58). -/
def changeQueue : Nat := 16
def requestQueue : Nat := 8
def mailQueue : Nat := 8
def laneOutbox : Nat := 4
def mailOutbox : Nat := 2
def laneRecords : Nat := 4
def lanesPerSlot : Nat := 4
def changesRead : Nat := 8

/-- Lanes of an uplink module (R149). -/
def lanes : Nat := 16

/-- FREE VALUE (log entry 13): how a result codes a reported power state or level that is NOT_REPORTED. R198 gives no
code, so the constant has no body. -/
opaque notReportedCode : Byte

/-- FREE VALUE (log entry 13): how READ_ROSTER codes the role of an ABSENT entry, which holds none (R40, R59). -/
opaque noRoleCode : Byte

end Sys2Proof.Config
end

