-- ==== Sys2Proof/Syntax.lean ====
section
/-! DEFINITION. The commands the part takes: one constructor of Instr for each row of spec/opcode_table.json, in the
table's order, with what the event brings from outside as its operands. -/

namespace Sys2Proof

/-- The levels of the strap and geography pins as they stand (R2, R3; 12_formats_and_signals.md, Pins). -/
structure StrapPins where
  /-- ROLE1, ROLE0: 00 BLADE, 01 FAN, 10 POWER, 11 UPLINK. -/
  role     : BitVec 2
  /-- RATE1, RATE0: 00 125, 01 250, 10 500, 11 1,000 kbit/s. -/
  rate     : BitVec 2
  /-- ATTENDED, high: attended. -/
  attended : Bool
  /-- CAP3 to CAP0. -/
  cap      : BitVec 4
  /-- FEED, low A, high B. -/
  feed     : Bool
  /-- GA5 to GA0. -/
  ga       : BitVec 6
  /-- GAP, the parity pin. -/
  gap      : Bool
  deriving DecidableEq, Repr

/-- How a transmission stopped before its end: an arbitration loss in IDENT (R25), or a bit read back otherwise in any
other field (R26). -/
inductive StopKind where
  | arbitration
  | mismatch
  deriving DecidableEq, Repr

/-- The rows of the configuration table of 01_station_life_cycle.md, in its order: the key code of R197 is the place. -/
inductive ConfigKey where
  | nA | nB | retention | identityRepeat | typeCode | revision | serial | priority | requested | floorAmount
  | fanClaim | baseAmount | laneCost | holdOff | shedHoldoff | minOn | minOff | pgWindow | redundancy | derateStep
  | expectedFans | reserve | rating | rotorsFitted | tachLimit | sustainLimit | ownDemandCounts | queueWait | drain
  | replyWindow | ejectGrace | mailBroadcast | mailThreshold | demandTarget | demandSpan
  deriving DecidableEq, Repr

/-- One command to the block: an event on the bus, at a pin, at the local port, or the end of a timer. -/
inductive Instr where
  /-- SEATED_ASSERTED (R1). -/
  | seatedAsserted (straps : StrapPins)
  /-- SEATED_LOST (R1). -/
  | seatedLost
  /-- POWER_REMOVED (R1). -/
  | powerRemoved
  /-- SURPRISE_REMOVAL (R180). -/
  | surpriseRemoval
  /-- UNSEATED_WAIT_END (R180). -/
  | unseatedWaitEnd
  /-- SETTLE_END (R3). -/
  | settleEnd (straps : StrapPins)
  /-- LISTEN_WINDOW_END (R6). -/
  | listenWindowEnd
  /-- RESTART_WAIT_END (R15). -/
  | restartWaitEnd
  /-- RESET_N_ASSERTED (R194). -/
  | resetNAsserted
  /-- RESET_N_RELEASED (R194). -/
  | resetNReleased
  /-- HANDLE_INPUT_CHANGE (R172): the new level of HANDLE, high while the handle is open. -/
  | handleInputChange (level : Bool)
  /-- HANDLE_OPENING (R172). -/
  | handleOpening
  /-- HANDLE_CLOSING (R172). -/
  | handleClosing
  /-- GRACE_END (R175). -/
  | graceEnd
  /-- POWER_GOOD_HIGH (R86). -/
  | powerGoodHigh
  /-- POWER_GOOD_LOST (R86). -/
  | powerGoodLost
  /-- TACH_EDGE (R143): the rotor, and the moment of the edge on the reference clock. -/
  | tachEdge (rotor : Nat) (moment : Nat)
  /-- CONVERSION_END (R121): what the converter meets at the diode inputs (none: open, shorted or not fitted) in whole
  degrees, and at the voltage inputs in steps of 10 mV; the channel in turn takes the one it needs. -/
  | conversionEnd (diode : Option Int) (volts : Int)
  /-- SHED_PULSE_END (R37). -/
  | shedPulseEnd
  /-- OVERLOAD_GUARD_END (R117). -/
  | overloadGuardEnd
  /-- DRAIN_END (R114). -/
  | drainEnd
  /-- BUS_IDLE (R17): whether another station's SYNC follows before this station's own. -/
  | busIdle (otherStarts : Bool)
  /-- TRANSMISSION_STOPPED (R26). -/
  | transmissionStopped (how : StopKind)
  /-- MUTE_END (R36). -/
  | muteEnd
  /-- TRANSMIT_SUCCESS (R31). -/
  | transmitSuccess
  /-- RATE_MEASUREMENT (R19): the measurement M. -/
  | rateMeasurement (m : Nat)
  /-- RATE_COUNTER_OVERFLOW (R18). -/
  | rateCounterOverflow
  /-- FRAME_ERROR (R23): the bits read from the line from the frame start on, true recessive. -/
  | frameError (bits : List Bool)
  /-- SHED_DETECTION (R38). -/
  | shedDetection
  /-- CLAIM_RECEIVED (R47). -/
  | claimReceived (src : BitVec 6) (payload : List Byte)
  /-- RELEASE_RECEIVED (R47). -/
  | releaseReceived (src : BitVec 6) (payload : List Byte)
  /-- CAPACITY_RECEIVED (R48). -/
  | capacityReceived (src : BitVec 6) (payload : List Byte)
  /-- FANSTAT_RECEIVED (R48). -/
  | fanstatReceived (src : BitVec 6) (payload : List Byte)
  /-- LANE_GRANT_RECEIVED (R167). -/
  | laneGrantReceived (src : BitVec 6) (payload : List Byte)
  /-- LANE_REQUEST_RECEIVED (R152). -/
  | laneRequestReceived (src : BitVec 6) (payload : List Byte)
  /-- LANE_RELEASE_RECEIVED (R158). -/
  | laneReleaseReceived (src : BitVec 6) (payload : List Byte)
  /-- THERMAL_RECEIVED (R136). -/
  | thermalReceived (src : BitVec 6) (payload : List Byte)
  /-- ANNOUNCE_RECEIVED (R46). -/
  | announceReceived (src : BitVec 6) (payload : List Byte)
  /-- JOIN_RECEIVED (R44). -/
  | joinReceived (src : BitVec 6) (payload : List Byte)
  /-- LEAVE_RECEIVED (R49). -/
  | leaveReceived (src : BitVec 6) (payload : List Byte)
  /-- MAIL_RECEIVED (R189). -/
  | mailReceived (src : BitVec 6) (payload : List Byte)
  /-- ROUND (R33). -/
  | round
  /-- AGING_VISIT (R53). -/
  | agingVisit
  /-- BEAT (R139). -/
  | beat
  /-- HOLD_OFF_END (R85). -/
  | holdOffEnd
  /-- POWER_GOOD_WINDOW_EXPIRY (R86). -/
  | powerGoodWindowExpiry
  /-- MIN_ON_END (R88). -/
  | minOnEnd
  /-- MIN_OFF_END (R89). -/
  | minOffEnd
  /-- SHED_HOLDOFF_END (R98). -/
  | shedHoldoffEnd
  /-- RAISE_HOLD_OFF_END (R100). -/
  | raiseHoldOffEnd
  /-- RESERVATION_HOLD_OFF_END (R155). -/
  | reservationHoldOffEnd
  /-- LANE_DRAIN_END (R158): a lane whose drain ends. -/
  | laneDrainEnd (lane : Nat)
  /-- REPLY_WINDOW_END (R166): the uplink whose record's window ends. -/
  | replyWindowEnd (uplink : Nat)
  /-- CHIP_SELECT_ASSERTED (R182). -/
  | chipSelectAsserted
  /-- COMMAND_INVALID (R182): the complete bytes of the packet, and whether it ends in a partial byte. -/
  | commandInvalid (packet : List Byte) (partialByte : Bool)
  /-- FETCH (R184): how many bytes the module processor clocks out after the command byte. -/
  | fetch (count : Nat)
  /-- SENSE (R187). -/
  | sense
  /-- SET_MASK (R188). -/
  | setMask (word : Half)
  /-- CONFIGURE (R10): the key, the channel byte of a per-channel key (else 0), the value bytes as one number. -/
  | configure (key : ConfigKey) (channel : Byte) (value : Word64)
  /-- READ_CONFIG (R10). -/
  | readConfig
  /-- GO (R8). -/
  | go
  /-- RESTART (R14). -/
  | restart
  /-- POWER_ON (R84). -/
  | powerOn
  /-- POWER_OFF (R87). -/
  | powerOff
  /-- SET_LEVEL (R91): the level byte of R197. -/
  | setLevel (level : Byte)
  /-- SET_AMOUNT (R92). -/
  | setAmount (amount : Half)
  /-- CLEAR_FAULT (R90). -/
  | clearFault
  /-- READ_POWER (R106). -/
  | readPower
  /-- READ_BUDGET (R77). -/
  | readBudget
  /-- READ_CLAIMS (R78). -/
  | readClaims
  /-- READ_ROSTER (R59). -/
  | readRoster (slot : Byte)
  /-- READ_CHANGES (R58). -/
  | readChanges
  /-- READ_MONITOR (R134). -/
  | readMonitor (channel : Byte)
  /-- SET_LIMITS (R123): the channel and the four signed values of R197 in their order. -/
  | setLimits (channel : Byte) (v0 v1 v2 v3 : Half)
  /-- READ_FAN (R148). -/
  | readFan
  /-- REQUEST_LANES (R165). -/
  | requestLanes (uplink count : Byte)
  /-- RELEASE_LANES (R169). -/
  | releaseLanes (uplink : Byte)
  /-- READ_LANES (R170). -/
  | readLanes
  /-- SET_LANE_FAULT (R157): the lane, and 0 off, 1 on. -/
  | setLaneFault (lane value : Byte)
  /-- SEND_MAIL (R192): destination, mode byte, data bytes. -/
  | sendMail (dest mode : Byte) (data : List Byte)
  /-- READ_MAIL (R191). -/
  | readMail
  /-- ABORT_MAIL (R193). -/
  | abortMail (tag : Byte)
  /-- CLEAR_MAIL_OVERFLOW (R190). -/
  | clearMailOverflow
  /-- READ_BUS (R39): the parameter byte, whose bit 0 is the clear flag. -/
  | readBus (flags : Byte)
  /-- UNKNOWN_KIND_RECEIVED (R24): the low two bits of a kind from 12 to 15. -/
  | unknownKindReceived (low : BitVec 2) (src : BitVec 6) (payload : List Byte)
  /-- STRANGER_SLOT_FRAME (R24): any kind, and the low four bits of a slot from 48 to 63. -/
  | strangerSlotFrame (kind : BitVec 4) (low : BitVec 4) (payload : List Byte)
  /-- POWER_APPLIED (R1). -/
  | powerApplied (straps : StrapPins)
  /-- PACKET_TAKEN (R183): the packet's bytes, command number first. -/
  | packetTaken (packet : List Byte)
  /-- EMPTY_RELEASE (R182). -/
  | emptyRelease
  deriving DecidableEq, Repr

end Sys2Proof
end

