-- ==== Sys2Proof/Decode.lean ====
section
/-! DEFINITION. The word interface of the host (no row of the table has bits, so no word spells a command), the byte
order helpers, the payload lengths of the frame kinds (R24), and the packets of the local command port with their
commands in both directions (R182, R197). -/

namespace Sys2Proof

/-- The command a word spells by the bits of spec/opcode_table.json. The table gives none of its rows any bits. -/
def decodeTableWord (_nbits _w : Nat) : Option Instr := none

/-! ## Byte order -/

/-- Bytes as a number, most significant byte first (00_scope.md, "Byte order"). -/
def beNat (bs : List Byte) : Nat := bs.foldl (fun a b => a * 256 + b.toNat) 0

/-- The low `k` bytes of a number, most significant byte first. -/
def natBytes : Nat → Nat → List Byte
  | 0, _ => []
  | k + 1, n => BitVec.ofNat 8 (n / 256 ^ k) :: natBytes k n

/-- A 16-bit word from its two bytes, most significant byte first. -/
def half (hi lo : Byte) : Half := BitVec.ofNat 16 (hi.toNat * 256 + lo.toNat)

/-- The two bytes of a 16-bit word, most significant byte first. -/
def halfBytes (w : Half) : List Byte := natBytes 2 w.toNat

/-! ## Payload lengths -/

/-- R24: LEN is consistent with the kind when it equals the length of the table, or lies from 1 to 12 for MAIL. A kind
from 12 to 15 is not defined and has no length to agree with. -/
def lengthFits (kind : BitVec 4) (len : Nat) : Bool :=
  match kind.toNat with
  | 0 => len == 5
  | 1 => len == 0
  | 2 => len == 3
  | 3 => len == 3
  | 4 => len == 5
  | 5 => len == 2
  | 6 => len == 1
  | 7 => len == 3
  | 8 => len == 7
  | 9 => len == 12
  | 10 => len == 0
  | 11 => decide (1 ≤ len ∧ len ≤ 12)
  | _ => true

/-! ## Configuration keys -/

/-- The keys in the order of their codes (R197). -/
def ConfigKey.all : List ConfigKey :=
  [.nA, .nB, .retention, .identityRepeat, .typeCode, .revision, .serial, .priority, .requested, .floorAmount,
   .fanClaim, .baseAmount, .laneCost, .holdOff, .shedHoldoff, .minOn, .minOff, .pgWindow, .redundancy, .derateStep,
   .expectedFans, .reserve, .rating, .rotorsFitted, .tachLimit, .sustainLimit, .ownDemandCounts, .queueWait, .drain,
   .replyWindow, .ejectGrace, .mailBroadcast, .mailThreshold, .demandTarget, .demandSpan]

/-- The key of a code, 0 for N_A to 34 for demand span (R197). -/
def ConfigKey.ofCode (n : Nat) : Option ConfigKey := ConfigKey.all[n]?

/-- The code of a key (R197). -/
def ConfigKey.code (k : ConfigKey) : Nat := ConfigKey.all.idxOf k

/-- How many value bytes CONFIGURE takes for a key (R197). -/
def ConfigKey.valueBytes : ConfigKey → Nat
  | .serial => 8
  | .typeCode | .requested | .floorAmount | .baseAmount | .minOn | .minOff | .pgWindow | .reserve | .rating
  | .tachLimit | .sustainLimit | .ejectGrace | .demandTarget => 2
  | .nA | .nB | .retention | .identityRepeat | .revision | .priority | .fanClaim | .laneCost | .holdOff | .shedHoldoff
  | .redundancy | .derateStep | .expectedFans | .rotorsFitted | .ownDemandCounts | .queueWait | .drain | .replyWindow
  | .mailBroadcast | .mailThreshold | .demandSpan => 1

/-- Whether a key is one of the per-channel keys, which take a channel byte (R10, R197). -/
def ConfigKey.perChannel : ConfigKey → Bool
  | .demandTarget | .demandSpan => true
  | .nA | .nB | .retention | .identityRepeat | .typeCode | .revision | .serial | .priority | .requested | .floorAmount
  | .fanClaim | .baseAmount | .laneCost | .holdOff | .shedHoldoff | .minOn | .minOff | .pgWindow | .redundancy
  | .derateStep | .expectedFans | .reserve | .rating | .rotorsFitted | .tachLimit | .sustainLimit | .ownDemandCounts
  | .queueWait | .drain | .replyWindow | .ejectGrace | .mailBroadcast | .mailThreshold => false

/-! ## Packets -/

/-- The CONFIGURE a packet's parameter bytes give: key code, channel byte of a per-channel key, value bytes. A key code
above 34 or a wrong length gives none (R182, R197). -/
def decodeConfigure : List Byte → Option Instr
  | [] => none
  | c :: rest =>
    match ConfigKey.ofCode c.toNat with
    | none => none
    | some key =>
      if key.perChannel then
        match rest with
        | [] => none
        | ch :: vs =>
          if vs.length = key.valueBytes then some (.configure key ch (BitVec.ofNat 64 (beNat vs))) else none
      else
        if rest.length = key.valueBytes then some (.configure key 0 (BitVec.ofNat 64 (beNat rest))) else none

/-- The command of a packet other than FETCH that passes R182: its first byte is the place in the command summary, its
length is R197's. SEND_MAIL's bytes after the thirteenth are ignored. -/
def decodePacket : List Byte → Option Instr
  | [] => none
  | n :: ps =>
    match n.toNat, ps with
    | 1, [] => some .sense
    | 2, [a, b] => some (.setMask (half a b))
    | 3, qs => decodeConfigure qs
    | 4, [] => some .readConfig
    | 5, [] => some .go
    | 6, [] => some .restart
    | 7, [] => some .powerOn
    | 8, [] => some .powerOff
    | 9, [a] => some (.setLevel a)
    | 10, [a, b] => some (.setAmount (half a b))
    | 11, [] => some .clearFault
    | 12, [] => some .readPower
    | 13, [] => some .readBudget
    | 14, [] => some .readClaims
    | 15, [a] => some (.readRoster a)
    | 16, [] => some .readChanges
    | 17, [a] => some (.readMonitor a)
    | 18, [c, a, b, d, e, f, g, h, i] => some (.setLimits c (half a b) (half d e) (half f g) (half h i))
    | 19, [] => some .readFan
    | 20, [a, b] => some (.requestLanes a b)
    | 21, [a] => some (.releaseLanes a)
    | 22, [] => some .readLanes
    | 23, [a, b] => some (.setLaneFault a b)
    | 24, a :: b :: data => some (.sendMail a b (data.take 11))
    | 25, [] => some .readMail
    | 26, [a] => some (.abortMail a)
    | 27, [] => some .clearMailOverflow
    | 28, [a] => some (.readBus a)
    | _, _ => none

/-- The packet of a local-port command (R197); none for a command that is no packet, and for FETCH, which is never
taken as one (R184). -/
def encodePacket : Instr → Option (List Byte)
  | .sense => some [1]
  | .setMask w => some (2 :: halfBytes w)
  | .configure k ch v =>
    some (3 :: BitVec.ofNat 8 k.code :: ((if k.perChannel then [ch] else []) ++ natBytes k.valueBytes v.toNat))
  | .readConfig => some [4]
  | .go => some [5]
  | .restart => some [6]
  | .powerOn => some [7]
  | .powerOff => some [8]
  | .setLevel a => some [9, a]
  | .setAmount w => some (10 :: halfBytes w)
  | .clearFault => some [11]
  | .readPower => some [12]
  | .readBudget => some [13]
  | .readClaims => some [14]
  | .readRoster a => some [15, a]
  | .readChanges => some [16]
  | .readMonitor a => some [17, a]
  | .setLimits c v0 v1 v2 v3 =>
    some (18 :: c :: (halfBytes v0 ++ halfBytes v1 ++ halfBytes v2 ++ halfBytes v3))
  | .readFan => some [19]
  | .requestLanes a b => some [20, a, b]
  | .releaseLanes a => some [21, a]
  | .readLanes => some [22]
  | .setLaneFault a b => some [23, a, b]
  | .sendMail a b data => some (24 :: a :: b :: data)
  | .readMail => some [25]
  | .abortMail a => some [26, a]
  | .clearMailOverflow => some [27]
  | .readBus a => some [28, a]
  | .fetch _ => none
  | .seatedAsserted _ | .seatedLost | .powerRemoved | .surpriseRemoval | .unseatedWaitEnd | .settleEnd _
  | .listenWindowEnd | .restartWaitEnd | .resetNAsserted | .resetNReleased | .handleInputChange _ | .handleOpening
  | .handleClosing | .graceEnd | .powerGoodHigh | .powerGoodLost | .tachEdge _ _ | .conversionEnd _ _ | .shedPulseEnd
  | .overloadGuardEnd | .drainEnd | .busIdle _ | .transmissionStopped _ | .muteEnd | .transmitSuccess
  | .rateMeasurement _ | .rateCounterOverflow | .frameError _ | .shedDetection | .claimReceived _ _
  | .releaseReceived _ _ | .capacityReceived _ _ | .fanstatReceived _ _ | .laneGrantReceived _ _
  | .laneRequestReceived _ _ | .laneReleaseReceived _ _ | .thermalReceived _ _ | .announceReceived _ _
  | .joinReceived _ _ | .leaveReceived _ _ | .mailReceived _ _ | .round | .agingVisit | .beat | .holdOffEnd
  | .powerGoodWindowExpiry | .minOnEnd | .minOffEnd | .shedHoldoffEnd | .raiseHoldOffEnd | .reservationHoldOffEnd
  | .laneDrainEnd _ | .replyWindowEnd _ | .chipSelectAsserted | .commandInvalid _ _ | .unknownKindReceived _ _ _
  | .strangerSlotFrame _ _ _ | .powerApplied _ | .packetTaken _ | .emptyRelease => none

/-- Whether R182 refuses a closed packet with INVALID: an unknown number, a wrong length or a partial byte. FETCH is
never refused (R184), and a packet of no complete byte is ignored, not refused. -/
def packetRefused (packet : List Byte) (partialByte : Bool) : Bool :=
  match packet with
  | [] => false
  | n :: _ => n != 0 && (partialByte || (decodePacket packet).isNone)

end Sys2Proof
end

