-- ==== Sys2Proof/Machine/SlotMap.lean ====
section
/-! DEFINITION. Two small containers: a table keyed by slot (or lane) number in one canonical form (keys strictly
rising, so that equal tables are equal data), and four like things under the numbers 0 to 3. -/

namespace Sys2Proof.Machine

/-- A table of records keyed by slot number; an unlisted slot holds nothing. -/
abbrev SlotMap (α : Type) := List (Nat × α)

/-- The record of a slot, if one is listed. -/
def slotGet {α : Type} : SlotMap α → Nat → Option α
  | [], _ => none
  | (j, v) :: t, k => if j = k then some v else slotGet t k

/-- Set the record of a slot, keeping the keys in order. -/
def slotSet {α : Type} : SlotMap α → Nat → α → SlotMap α
  | [], k, v => [(k, v)]
  | (j, w) :: t, k, v =>
    if k < j then (k, v) :: (j, w) :: t else if j = k then (k, v) :: t else (j, w) :: slotSet t k v

/-- Drop the record of a slot. -/
def slotDel {α : Type} : SlotMap α → Nat → SlotMap α
  | [], _ => []
  | (j, w) :: t, k => if j = k then slotDel t k else (j, w) :: slotDel t k

/-- The canonical form: keys strictly rising. -/
def slotWf {α : Type} : SlotMap α → Bool
  | [] => true
  | [_] => true
  | (j, _) :: (k, v) :: t => decide (j < k) && slotWf ((k, v) :: t)

/-- Change every record of a table. -/
def slotMap {α β : Type} (f : Nat → α → β) (m : SlotMap α) : SlotMap β := m.map (fun p => (p.1, f p.1 p.2))

/-- Four like things: the T channels, the V channels, the rotors, a per-channel key. -/
structure Quad (α : Type) where
  x0 : α
  x1 : α
  x2 : α
  x3 : α
  deriving DecidableEq, Repr

/-- Four copies of one value. -/
def Quad.all {α : Type} (v : α) : Quad α := ⟨v, v, v, v⟩

/-- The thing under a number; numbers above 3 do not occur and read the last. -/
def Quad.at {α : Type} (q : Quad α) (k : Nat) : α :=
  match k with
  | 0 => q.x0
  | 1 => q.x1
  | 2 => q.x2
  | _ => q.x3

/-- Change each of the four. -/
def Quad.map {α β : Type} (f : α → β) (q : Quad α) : Quad β := ⟨f q.x0, f q.x1, f q.x2, f q.x3⟩

/-- Replace the thing under a number. -/
def Quad.put {α : Type} (q : Quad α) (k : Nat) (v : α) : Quad α :=
  match k with
  | 0 => { q with x0 := v }
  | 1 => { q with x1 := v }
  | 2 => { q with x2 := v }
  | 3 => { q with x3 := v }
  | _ => q

/-- The four things in order. -/
def Quad.list {α : Type} (q : Quad α) : List α := [q.x0, q.x1, q.x2, q.x3]

end Sys2Proof.Machine
end

