-- ==== Sys2Proof/Machine/Frame.lean ====
section
/-! DEFINITION. A frame of the slot bus and its way on the line: fields (R20), check value (R22), stuffing (R21), and
how a receiver classes what it reads (R23). A bit is true when recessive (1) and false when dominant (0), R16. -/

namespace Sys2Proof.Machine

/-- What a frame carries: kind, source slot, payload bytes (R20). -/
structure Frame where
  kind    : BitVec 4
  src     : BitVec 6
  payload : List Byte
  deriving DecidableEq, Repr

/-- The low `k` bits of a number, most significant bit first. -/
def natBits : Nat → Nat → List Bool
  | 0, _ => []
  | k + 1, n => n.testBit k :: natBits k n

/-- Bits as a number, most significant bit first. -/
def bitsNat (bs : List Bool) : Nat := bs.foldl (fun a b => 2 * a + b.toNat) 0

/-- The identifier of a frame: kind × 64 + source slot (R20). -/
def Frame.identifier (f : Frame) : Nat := f.kind.toNat * 64 + f.src.toNat

/-- The bytes a transmitter sends of a payload: the first 12 (R20). -/
def Frame.sent (f : Frame) : List Byte := f.payload.take 12

/-- IDENT, LEN and PAYLOAD, unstuffed, in the order they are sent (R20). -/
def Frame.checkedBits (f : Frame) : List Bool :=
  natBits 10 f.identifier ++ natBits 4 f.sent.length ++ f.sent.flatMap (fun b => natBits 8 b.toNat)

/-- One bit into the check register (R22). -/
def crcStep (r : Half) (b : Bool) : Half :=
  let shifted := r <<< 1
  if r.msb != b then shifted ^^^ 0x8BB7#16 else shifted

/-- The check value over a run of bits (R22). -/
def crc (bs : List Bool) : Half := bs.foldl crcStep 0#16

/-- The unstuffed bits from IDENT through CHECK. -/
def Frame.bodyBits (f : Frame) : List Bool :=
  f.checkedBits ++ natBits 16 (crc f.checkedBits).toNat

/-- Stuffing (R21): after six equal bits one bit of the opposite value, which begins a new run. `last` and `run` are the
run so far; a run of 0 has no last bit yet. -/
def stuffFrom (last : Bool) (run : Nat) : List Bool → List Bool
  | [] => []
  | b :: bs =>
    let run' := if b == last then run + 1 else 1
    if run' = 6 then b :: (!b) :: stuffFrom (!b) 1 bs else b :: stuffFrom b run' bs

/-- Stuffing of a whole stretch: SYNC does not count toward the first run (R21). -/
def stuff (bs : List Bool) : List Bool := stuffFrom true 0 bs

/-- SYNC: 0,1,0,1,0,1,0,1 (R20). -/
def syncBits : List Bool := [false, true, false, true, false, true, false, true]

/-- END: eight recessive bits (R20). -/
def endBits : List Bool := List.replicate 8 true

/-- A frame as it goes on the line (R20, R21). -/
def Frame.lineBits (f : Frame) : List Bool := syncBits ++ stuff f.bodyBits ++ endBits

/-- What a receiver makes of what it reads (R23); `incomplete` while the outcome is not yet known. -/
inductive RxOutcome where
  | good (f : Frame)
  | stuffError
  | truncation
  | checkError
  | cutByPulse
  | incomplete
  deriving DecidableEq, Repr

/-- A dominant run of `n` bits that is no part of a good frame: it cuts the frame when it reaches 16 bit times anywhere
in the frame, and is the error `e` when it ends before (R23; log entry 21 for SYNC and END). -/
def dominantRun (e : RxOutcome) (n : Nat) : List Bool → RxOutcome
  | [] => if 16 ≤ n then .cutByPulse else .incomplete
  | b :: bs => if 16 ≤ n then .cutByPulse else if b then e else dominantRun e (n + 1) bs

/-- A recessive run of `n` bits, seven or more, that has broken the stuffing in the stuffed stretch: a truncation when it
reaches 10, a stuff error when a dominant bit ends it before (R23). That it is classed so too where it reaches 10, or ends,
only inside END is the model's choice (log entry 70): R23's truncation row has the run reach 10 before CHECK is read. -/
def recessiveRun (n : Nat) : List Bool → RxOutcome
  | [] => if 10 ≤ n then .truncation else .incomplete
  | b :: bs => if 10 ≤ n then .truncation else if b then recessiveRun (n + 1) bs else .stuffError

/-- The payload length a LEN code stands for: 13, 14 and 15 are read as 12 (R20). -/
def lenBytes (code : Nat) : Nat := min code 12

/-- Whether the unstuffed bits read so far are all of IDENT, LEN, PAYLOAD and CHECK. -/
def bodyComplete (acc : List Bool) : Bool :=
  decide (14 ≤ acc.length) &&
    decide (acc.length = 30 + 8 * lenBytes (bitsNat ((acc.drop 10).take 4)))

/-- The bytes of a run of bits. -/
def bitsBytes : Nat → List Bool → List Byte
  | 0, _ => []
  | k + 1, bs => BitVec.ofNat 8 (bitsNat (bs.take 8)) :: bitsBytes k (bs.drop 8)

/-- The frame the complete unstuffed bits carry, if CHECK agrees (R22). -/
def bodyFrame (acc : List Bool) : RxOutcome :=
  let len := lenBytes (bitsNat ((acc.drop 10).take 4))
  let checked := acc.take (14 + 8 * len)
  if bitsNat (acc.drop (14 + 8 * len)) = (crc checked).toNat then
    let f : Frame :=
      { kind := BitVec.ofNat 4 (bitsNat (acc.take 4))
        src := BitVec.ofNat 6 (bitsNat ((acc.drop 4).take 6))
        payload := bitsBytes len (acc.drop 14) }
    if lengthFits f.kind f.payload.length then .good f else .checkError
  else .checkError

/-- END (R23): eight recessive bits; a dominant bit inside END is a check error, unless its run turns out to be a shed
pulse. `low` is the dominant run on the line so far: one that CHECK or its stuff bit ends with goes on in END, and stays a
check error where it reaches 7 only there (log entry 70). -/
def rxEnd (acc : List Bool) (low : Nat) : Nat → List Bool → RxOutcome
  | 0, _ => bodyFrame acc
  | _ + 1, [] => .incomplete
  | k + 1, b :: bs => if b then rxEnd acc 0 k bs else dominantRun .checkError (low + 1) bs

/-- The stuffed stretch (R21, R23): `acc` holds the unstuffed bits in order, `last` and `run` the run on the line. -/
def rxBody (acc : List Bool) (last : Bool) (run : Nat) : List Bool → RxOutcome
  | [] => if run ≠ 6 && bodyComplete acc then rxEnd acc 0 8 [] else .incomplete
  | b :: bs =>
    if run = 6 then
      if b == last then (if b then recessiveRun 7 bs else dominantRun .stuffError 7 bs)
      else rxBody acc b 1 bs
    else if bodyComplete acc then rxEnd acc (if last then 0 else run) 8 (b :: bs)
    else rxBody (acc ++ [b]) b (if b == last then run + 1 else 1) bs

/-- SYNC (R23): any departure from its pattern is a stuff error, unless the departing dominant run turns out to be a
shed pulse. -/
def rxSync : List Bool → List Bool → RxOutcome
  | [], bits => rxBody [] true 0 bits
  | _ :: _, [] => .incomplete
  | p :: ps, b :: bs =>
    if b == p then rxSync ps bs else if b then .stuffError else dominantRun .stuffError 2 bs

/-- How the receiver classes the bits read from a frame start on (R23). -/
def classify (bits : List Bool) : RxOutcome := rxSync syncBits bits

end Sys2Proof.Machine
end

