-- ==== Sys2Proof/Machine/State.lean ====
section
/-! DEFINITION. The state of one SC-48 station: every register, queue, timer, mode and pin the spec gives it, block by
block (00_scope.md, Block diagram), and the queue of commands that wait. Plain data; State.reset is the power-on
condition of R1. -/

namespace Sys2Proof.Machine

/-! ## Names -/

/-- The life states (01_station_life_cycle.md); at power-on LC holds none (R1). In the order of the chapter's table. -/
inductive Life where
  | start | halted | listen | ready | active | clash | removable
  deriving DecidableEq, Repr

/-- The four roles (R3, R40), in the order of their codes. -/
inductive Role where
  | blade | fan | power | uplink
  deriving DecidableEq, Repr

/-- The four bus rates (R16), in the order of the RATE straps. -/
inductive Rate where
  | k125 | k250 | k500 | k1000
  deriving DecidableEq, Repr

/-- The feed of a supply (R107). -/
inductive Feed where
  | a | b
  deriving DecidableEq, Repr

/-- The power levels of a consumer (R80). -/
inductive Level where
  | full | floor
  deriving DecidableEq, Repr

/-- The consumer power states (R80), in the order of their codes. -/
inductive PowerState where
  | off | claiming | enabling | on | stopping | cooldown | fault
  deriving DecidableEq, Repr

/-- The supply states (R108), in the order of their codes. -/
inductive SupplyState where
  | offline | good | warm | failed
  deriving DecidableEq, Repr

/-- The redundancy modes (R66, R67), in the order of their codes. -/
inductive Redundancy where
  | noRedundancy | nPlusOne | halfFeeds
  deriving DecidableEq, Repr

/-- A timer: running until a moment of the reference clock, or stopped, with the time it had left when a rule says that
it stops with its remaining time (R108) and 0 otherwise. -/
inductive Timer where
  | stopped (left : Nat)
  | running (due : Nat)
  deriving DecidableEq, Repr

/-- The debounced handle (R171). -/
inductive Handle where
  | closed | opened
  deriving DecidableEq, Repr

/-- The removal phase (R171), in the order of R198's codes. -/
inductive RemovalPhase where
  | noRemoval | grace | poweringDown | removableActive | removableEarly | unseated
  deriving DecidableEq, Repr

/-- The LEAVE outcome (R171), in the order of R198's codes. -/
inductive LeaveOutcome where
  | noLeave | pending | sent | dropped
  deriving DecidableEq, Repr

/-! ## Pins -/

/-- The input levels as they stand. -/
structure Pins where
  /-- Standby power is applied (R1). -/
  standby       : Bool
  /-- SEATED is asserted (R1). -/
  seated        : Bool
  /-- The straps and geography as they last stood (R2, R3). -/
  straps        : StrapPins
  /-- HANDLE is high (R172). -/
  handleOpen    : Bool
  /-- POWER_GOOD is high (R86). -/
  powerGood     : Bool
  /-- RESET_N is asserted (R194). -/
  resetAsserted : Bool
  /-- Chip select is asserted (R182). -/
  chipSelect    : Bool
  /-- The present assertion of chip select carries no packet: it came under RESET_N or without standby power, or a local
  reset or the loss of standby power has dropped its packet (R194; log entry 35). -/
  unheard       : Bool
  deriving DecidableEq, Repr

/-! ## LC -/

/-- The values read once from straps and geography (R3). -/
structure Straps where
  role     : Role
  rate     : Rate
  attended : Bool
  /-- Capacity code, read in POWER role alone. -/
  capCode  : Option Nat
  /-- Feed, read in POWER role alone. -/
  feed     : Option Feed
  /-- The slot as read from the pins, 0 to 63 (in HALTED it may lie above 47, R10). -/
  slot     : Nat
  deriving DecidableEq, Repr

/-- The configuration keys with their defaults (R10 and the table under Configuration). The defaults of priority and
rating that follow the straps are set when the straps are read (R3). -/
structure Keys where
  nA              : Nat := 49
  nB              : Nat := 12
  retention       : Nat := 4
  identityRepeat  : Nat := 16
  typeCode        : Nat := 0
  revision        : Nat := 0
  serial          : Word64 := 0
  priority        : Nat := 4
  requested       : Nat := 40
  floorAmount     : Nat := 20
  fanClaim        : Nat := 35
  baseAmount      : Nat := 30
  laneCost        : Nat := 5
  holdOff         : Nat := 2
  shedHoldoff     : Nat := 8
  minOn           : Nat := 5000
  minOff          : Nat := 2000
  pgWindow        : Nat := 500
  redundancy      : Redundancy := .nPlusOne
  derateStep      : Nat := 5
  expectedFans    : Nat := 0
  reserve         : Nat := 20
  rating          : Nat := 25
  rotorsFitted    : Nat := 4
  tachLimit       : Nat := 15000
  sustainLimit    : Nat := 2400
  ownDemandCounts : Bool := true
  queueWait       : Nat := 10
  drain           : Nat := 2
  replyWindow     : Nat := 6
  ejectGrace      : Nat := 10000
  mailBroadcast   : Bool := true
  mailThreshold   : Nat := 1
  demandTarget    : Quad (Option Int) := Quad.all none
  demandSpan      : Quad Nat := Quad.all 20
  deriving DecidableEq, Repr

/-- The life-cycle controller (01_station_life_cycle.md; the removal record of R171). -/
structure LifeCycle where
  life         : Option Life := none
  straps       : Option Straps := none
  keys         : Keys := {}
  listenCount  : Nat := 0
  goRemembered : Bool := false
  aloneStart   : Bool := false
  settle       : Timer := .stopped 0
  listenWindow : Timer := .stopped 0
  handle       : Handle := .closed
  debounce     : Timer := .stopped 0
  phase        : RemovalPhase := .noRemoval
  grace        : Timer := .stopped 0
  leaveOutcome : LeaveOutcome := .noLeave
  /-- REMOVABLE was entered from HALTED (R173). -/
  fromHalted   : Bool := false
  /-- The goodbye wait of a restart (R15). -/
  restartWait  : Timer := .stopped 0
  /-- The wait of a surprise removal (R180). -/
  unseatedWait : Timer := .stopped 0
  deriving DecidableEq, Repr

/-! ## BI -/

/-- The mode of an outbound entry (R28). -/
inductive Mode where
  | retry | single
  deriving DecidableEq, Repr

/-- A kind entry (R28, R29): the repeat flag with its mode can only be set while SENDING. -/
inductive Entry where
  | empty
  | pending (mode : Mode)
  | sending (mode : Mode) (again : Option Mode)
  deriving DecidableEq, Repr

/-- The eight kinds with a kind entry (R28). -/
inductive OwnKind where
  | claim | release | capacity | fanstat | thermal | announce | join | leave
  deriving DecidableEq, Repr

/-- The eight kind entries (R28). -/
structure KindEntries where
  claim    : Entry := .empty
  release  : Entry := .empty
  capacity : Entry := .empty
  fanstat  : Entry := .empty
  thermal  : Entry := .empty
  announce : Entry := .empty
  join     : Entry := .empty
  leave    : Entry := .empty
  deriving DecidableEq, Repr

/-- The three lane frames (09_uplink_lanes.md). -/
inductive LaneKind where
  | grant | request | release
  deriving DecidableEq, Repr

/-- An entry of the lane outbox (R28), always RETRY (R29). -/
structure LaneEntry where
  kind    : LaneKind
  target  : Nat
  sending : Bool
  deriving DecidableEq, Repr

/-- An entry of the mail outbox (R28) with the outbox record it belongs to (R192). -/
structure MailEntry where
  box     : Nat
  dest    : Nat
  data    : List Byte
  mode    : Mode
  sending : Bool
  deriving DecidableEq, Repr

/-- Which entry a transmission sends; `orphan` when a local reset has emptied it meanwhile (R194). -/
inductive TxRef where
  | own (k : OwnKind)
  | lane
  | mail
  | orphan
  deriving DecidableEq, Repr

/-- A transmission in progress (R25 to R31): its entry and mode, the frame as taken at its start, how it stopped,
whether a shed pulse was detected since, and whether its entry is emptied whatever the ending (R35). -/
structure Tx where
  ref      : TxRef
  mode     : Mode
  frame    : Frame
  stopped  : Option StopKind
  shedSeen : Bool
  doomed   : Bool
  deriving DecidableEq, Repr

/-- The transmitter state (R35), in the order of R198's codes. -/
inductive TxState where
  | enabled | mute | off
  deriving DecidableEq, Repr

/-- The bus statistics (R39), each 0 to 65,535. -/
structure BusStats where
  sent            : Nat := 0
  good            : Nat := 0
  arbitration     : Nat := 0
  bitErrors       : Nat := 0
  failedSingles   : Nat := 0
  shedDisturbance : Nat := 0
  checkErrors     : Nat := 0
  stuffErrors     : Nat := 0
  truncations     : Nat := 0
  unknownKinds    : Nat := 0
  strangers       : Nat := 0
  latePeriodics   : Nat := 0
  rateOverflows   : Nat := 0
  rateMismatches  : Nat := 0
  shedPulses      : Nat := 0
  deriving DecidableEq, Repr

/-- The bus interface (02_the_slot_bus.md). -/
structure BusInterface where
  /-- The bus rate; none while unlocked. -/
  rate          : Option Rate := none
  /-- The bus is counted idle (R17). -/
  idle          : Bool := false
  /-- The receiver takes a frame start: an idle has been counted since START (R17), since the last measurement (R18, R19)
  and since the last frame that was not good (R23). -/
  synced        : Bool := false
  kinds         : KindEntries := {}
  lanes         : List LaneEntry := []
  mails         : List MailEntry := []
  tx            : Option Tx := none
  txState       : TxState := .off
  failRun       : Nat := 0
  mute          : Timer := .stopped 0
  timerA        : Timer := .stopped 0
  timerB        : Timer := .stopped 0
  identityCount : Nat := 0
  /-- The own shed pulse on the line (R37). -/
  pulse         : Timer := .stopped 0
  stats         : BusStats := {}
  deriving DecidableEq, Repr

/-! ## RO -/

/-- The identity part of an entry (R40). -/
structure Identity where
  typeCode : Nat
  revision : Nat
  serial   : Word64
  deriving DecidableEq, Repr

/-- The claim part of an entry (R40). -/
structure ClaimPart where
  amount   : Nat
  floor    : Nat
  priority : Nat
  level    : Level
  deriving DecidableEq, Repr

/-- The supply part of an entry (R40). -/
structure SupplyPart where
  capacity : Nat
  state    : SupplyState
  feed     : Feed
  deriving DecidableEq, Repr

/-- The fan part of an entry (R40). -/
structure FanPart where
  fitted    : Nat
  failed    : Nat
  duty      : Nat
  sustained : Bool
  deriving DecidableEq, Repr

/-- The reported flags of an entry (R40). -/
structure ReportedFlags where
  selfStale     : Bool := false
  shedRunning   : Bool := false
  supplyOffline : Bool := false
  deriving DecidableEq, Repr

/-- A PRESENT roster entry (R40); `none` for the reported power state and level is NOT_REPORTED. -/
structure RosterEntry where
  role     : Role
  identity : Option Identity := none
  power    : Option PowerState := none
  level    : Option Level := none
  flags    : ReportedFlags := {}
  claim    : Option ClaimPart := none
  supply   : Option SupplyPart := none
  fan      : Option FanPart := none
  silence  : Nat := 0
  deriving DecidableEq, Repr

/-- The kinds of change (R56), in the order of R198's codes. -/
inductive ChangeKind where
  | inserted | identified | swapped | removed | expired
  deriving DecidableEq, Repr

/-- A change record (R56). -/
structure Change where
  kind   : ChangeKind
  slot   : Nat
  role   : Role
  serial : Option Word64
  stamp  : Nat
  deriving DecidableEq, Repr

/-- The roster (03_roster_and_inventory.md). -/
structure Roster where
  /-- The PRESENT entries of other slots; an unlisted slot is ABSENT. -/
  entries     : SlotMap RosterEntry := []
  /-- The own entry is PRESENT; its content follows own state (R41). -/
  ownPresent  : Bool := false
  changes     : List Change := []
  lost        : Nat := 0
  roundCount  : Nat := 0
  pointer     : Nat := 0
  /-- The moment at which the pointer visits slot 0 in its present round (R52). -/
  scanStart   : Nat := 0
  scanning    : Bool := false
  selfSilence : Nat := 0
  sentMark    : Bool := false
  heardMark   : Bool := false
  selfStale   : Bool := false
  deriving DecidableEq, Repr

/-! ## BU -/

/-- The class of a claim (R61). -/
inductive ClaimClass where
  | fan | ranked
  deriving DecidableEq, Repr

/-- A claim of the claim table (R61). -/
structure Claim where
  slot     : Nat
  cls      : ClaimClass
  priority : Nat
  amount   : Nat
  floor    : Nat
  level    : Level
  admitted : Bool
  deriving DecidableEq, Repr

/-- What a recompute leaves: the capacity stages (R65 to R70), REDUNDANCY_LOST (R66, R67) and the prefix (R71). -/
structure Stages where
  n         : Nat := 0
  sum       : Nat := 0
  largest   : Nat := 0
  sumA      : Nat := 0
  sumB      : Nat := 0
  s         : Nat := 0
  lost      : Bool := false
  fans      : Nat := 0
  f         : Nat := 0
  h         : Nat := 0
  d         : Nat := 0
  cd        : Nat := 0
  cEff      : Nat := 0
  prefixLen : Nat := 0
  prefixSum : Nat := 0
  deriving DecidableEq, Repr

/-- The budget unit (04_power_budget.md). -/
structure Budget where
  /-- The claim table, in rank order (R62). -/
  claims : List Claim := []
  stages : Stages := {}
  deriving DecidableEq, Repr

/-! ## PS -/

/-- The reason of the last switch-off (R80), in the order of R198's codes. -/
inductive OffReason where
  | noReason | request | shed | stale | clash | pgTimeout | pgLost | overtemp | unseated
  deriving DecidableEq, Repr

/-- The cause of a shed holdoff or a SHED event (R80, R106), in the order of R198's codes. -/
inductive ShedCause where
  | pulse | budget | thermal
  deriving DecidableEq, Repr

/-- The raise in flight (R80): LEVEL, AMOUNT with the amount being tried, or the AMOUNT raise that LM owns (R100). -/
inductive Raise where
  | noRaise
  | level
  | amount (tried : Nat)
  | lanes
  deriving DecidableEq, Repr

/-- The consumer sequencer (R80); in FAN role its state and level are what R105 reports. -/
structure Sequencer where
  power     : PowerState := .off
  level     : Level := .full
  desired   : Level := .full
  working   : Nat := 40
  pendingOn : Bool := false
  reason    : OffReason := .noReason
  holdOff   : Timer := .stopped 0
  shedHold  : Timer := .stopped 0
  shedCause : ShedCause := .pulse
  raise     : Raise := .noRaise
  raiseHold : Timer := .stopped 0
  pgWindow  : Timer := .stopped 0
  roseAt    : Option Nat := none
  fellAt    : Option Nat := none
  deriving DecidableEq, Repr

/-- The supply record (R108) and the level of PWR_EN in POWER role (R112). -/
structure Supply where
  state    : SupplyState := .offline
  reported : Nat := 0
  localOff : Bool := false
  drain    : Timer := .stopped 0
  overload : Nat := 0
  load     : Nat := 0
  guard    : Timer := .stopped 0
  output   : Bool := false
  deriving DecidableEq, Repr

/-! ## SM -/

/-- A temperature reading (R120, R122). -/
inductive Reading where
  | invalid
  | deg (c : Int)
  deriving DecidableEq, Repr

/-- A T channel's record (R120). -/
structure TChannel where
  reading    : Reading := .invalid
  overLimit  : Int := 85
  hysteresis : Int := 80
  critLimit  : Int := 95
  shutLimit  : Int := 105
  out        : Bool := false
  latched    : Bool := false
  critical   : Bool := false
  shutdown   : Bool := false
  demand     : Option Nat := none
  deriving DecidableEq, Repr

/-- A V channel's record (R120). -/
structure VChannel where
  reading : Nat := 0
  high    : Int := 1500
  low     : Int := 0
  out     : Bool := false
  latched : Bool := false
  deriving DecidableEq, Repr

/-- The sensor monitor (07_sensor_monitor_and_thermal_demand.md). -/
structure SensorMonitor where
  t          : Quad TChannel := Quad.all {}
  v          : Quad VChannel := Quad.all {}
  /-- The channel converted next, 0 to 7 (R121). -/
  next       : Nat := 0
  conversion : Timer := .stopped 0
  ownDemand  : Option Nat := none
  hottest    : Option Reading := none
  deriving DecidableEq, Repr

/-! ## FC -/

/-- An entry of the thermal view (R135). -/
structure ViewEntry where
  demand  : Nat
  hottest : Reading
  age     : Nat
  deriving DecidableEq, Repr

/-- The last bad cause of a rotor (R135), in the order of R198's codes. -/
inductive BadCause where
  | noCause | slow | stall
  deriving DecidableEq, Repr

/-- A rotor record (R135). -/
structure Rotor where
  lastEdge : Option Nat := none
  period   : Option Nat := none
  failed   : Bool := false
  badRun   : Nat := 0
  goodRun  : Nat := 0
  lastBad  : BadCause := .noCause
  deriving DecidableEq, Repr

/-- The fan controller (08_fan_control.md). -/
structure FanControl where
  view          : SlotMap ViewEntry := []
  applied       : Nat := 100
  lastTarget    : Option Nat := none
  lastComp      : Option Nat := none
  rotors        : Quad Rotor := Quad.all {}
  sustained     : Nat := 0
  sustainedFlag : Bool := false
  /-- The moment the settle time ended (R143). -/
  settledAt     : Nat := 0
  deriving DecidableEq, Repr

/-! ## LM -/

/-- A lane that is not FREE (R149); a DRAINING lane holds its drain (R158). -/
inductive LaneUse where
  | reserved (slot : Nat)
  | granted (slot : Nat)
  | draining (slot : Nat) (drain : Timer)
  | faulted
  deriving DecidableEq, Repr

/-- Lane outcomes (09_uplink_lanes.md), in the order of their codes. -/
inductive LaneOutcome where
  | granted | denied | revoked | released
  deriving DecidableEq, Repr

/-- Lane reasons, in the order of their codes (12_formats_and_signals.md). -/
inductive LaneReason where
  | noReason | noPower | stopping | notPowered | limit | queueFull | noLanes | laneFault | shed | uplinkOff
  deriving DecidableEq, Repr

/-- An answer of an uplink (R150). -/
structure Answer where
  outcome : LaneOutcome
  reason  : LaneReason
  deriving DecidableEq, Repr

/-- A holder record (R150). -/
structure Holder where
  answer   : Option Answer := none
  inFlight : Bool := false
  notify   : Bool := false
  deriving DecidableEq, Repr

/-- A queued lane request (R151). -/
structure Request where
  slot  : Nat
  count : Nat
  age   : Nat
  deriving DecidableEq, Repr

/-- The reservation in flight (R153); its lane set is the lanes RESERVED in the map. -/
structure Reservation where
  slot : Nat
  hold : Timer
  deriving DecidableEq, Repr

/-- The lane manager of an UPLINK station. -/
structure LaneManager where
  /-- The lane map; an unlisted lane is FREE. -/
  lanes       : SlotMap LaneUse := []
  holders     : SlotMap Holder := []
  queue       : List Request := []
  reservation : Option Reservation := none
  deriving DecidableEq, Repr

/-- The last outcome of a blade's lane record (R164) and of the LANE event (R186). -/
inductive LastOutcome where
  | noOutcome
  | answer (a : Answer)
  | timeout
  | late
  deriving DecidableEq, Repr

/-- A lane record of a BLADE station (R164). -/
structure LaneRecord where
  held    : Half := 0
  pending : Nat := 0
  window  : Timer := .stopped 0
  release : Bool := false
  /-- A LANE_RELEASE has been sent since the last request (R164; log entry 49). -/
  sent    : Bool := false
  notify  : Bool := false
  last    : LastOutcome := .noOutcome
  deriving DecidableEq, Repr

/-! ## LP -/

/-- The transaction phase (R181); EXECUTING holds the packet that was taken. -/
inductive PortPhase where
  | idle
  | command
  | executing (packet : List Byte)
  deriving DecidableEq, Repr

/-- The causes of the POWER event (R106, R119), in the order of R196's codes. -/
inductive PowerCause where
  | request | admitted | powerGood | raise | shed | minOn | minOff | clear | pgTimeout | pgLost | overtemp | unseated
  | stale | clash | offline | good | warm | failed | drained
  deriving DecidableEq, Repr

/-- An entry of the mail receive queue (R189). -/
structure MailItem where
  source   : Nat
  dest     : Nat
  stranger : Bool
  data     : List Byte
  deriving DecidableEq, Repr

/-- The status of an outbox record (R192), in the order of R198's codes. -/
inductive MailStatus where
  | unused | pending | sending | sent | failed | aborted
  deriving DecidableEq, Repr

/-- An outbox record (R192). -/
structure OutBox where
  tag    : Nat := 0
  status : MailStatus := .unused
  deriving DecidableEq, Repr

/-- The local port (11_local_command_port.md). -/
structure LocalPort where
  phase       : PortPhase := .idle
  /-- The result buffer: status byte and result bytes, none when empty. -/
  result      : Option (List Byte) := none
  /-- The bytes clocked out on SDO in the last packet: the answer of a FETCH (R184), recessive-high for any other (R182). -/
  sdo         : List Byte := []
  /-- The packets that were executing at local resets, oldest first: each still takes effect, its result is lost (R194; log
  entry 24). -/
  lostCommands : List (List Byte) := []
  /-- The latched events, as the event word (12_formats_and_signals.md). -/
  latched     : Half := 0
  /-- The event mask, 1 unmasked. -/
  mask        : Half := 0
  powerCause  : PowerCause := .request
  shedCauses  : Byte := 0
  raiseCauses : Byte := 0
  fanCauses   : Byte := 0
  busCauses   : Byte := 0
  ejectCauses : Byte := 0
  laneOutcome : LastOutcome := .noOutcome
  laneSlot    : Nat := 0
  mailQueue   : List MailItem := []
  overflow    : Bool := false
  box0        : OutBox := {}
  box1        : OutBox := {}
  nextTag     : Nat := 0
  /-- The record that took a final status last, 0 or 1. -/
  lastFinal   : Nat := 0
  deriving DecidableEq, Repr

/-! ## The station -/

/-- One station and the commands that wait for it. -/
structure State where
  /-- The 25 MHz reference clock, in ticks. -/
  now     : Nat
  /-- The commands that wait, first in first out. -/
  pending : List Instr
  pins    : Pins
  lc      : LifeCycle
  bi      : BusInterface
  ro      : Roster
  bu      : Budget
  ps      : Sequencer
  sup     : Supply
  sm      : SensorMonitor
  fc      : FanControl
  lm      : LaneManager
  lb      : SlotMap LaneRecord
  lp      : LocalPort
  deriving DecidableEq, Repr

/-- Why the machine would stop with a fault: never. The spec gives every command an effect in every state, a count, a
status or a next state of the part, so there is no reason to name. -/
inductive Fault where
  deriving DecidableEq, Repr

/-- Why a command would have no meaning. -/
inductive Refusal where
  /-- The command of this mnemonic is not modelled yet. Raised by a refused arm of exec alone, of which none is left;
  safe, since nothing can be proved of a run that meets it. -/
  | notModelled (mnemonic : String)
  deriving DecidableEq, Repr

/-- Input pins before anything is known of them (log entry 6), with standby power applied and SEATED not asserted. -/
def Pins.reset : Pins :=
  { standby := true
    seated := false
    straps := { role := 0, rate := 0, attended := false, cap := 0, feed := false, ga := 0, gap := false }
    handleOpen := false
    powerGood := false
    resetAsserted := false
    chipSelect := false
    unheard := false }

/-- The machine right after reset: the power-on condition of R1. -/
def State.reset : State :=
  { now := 0
    pending := []
    pins := Pins.reset
    lc := {}
    bi := {}
    ro := {}
    bu := {}
    ps := {}
    sup := {}
    sm := {}
    fc := {}
    lm := {}
    lb := []
    lp := {} }

end Sys2Proof.Machine
end

