-- ==== Sys2Proof/Machine/Ops.lean ====
section
/-! DEFINITION. Shared operations: who the station is, the reference clock and the timers (R83), saturating counts, the
output pins as functions of the state (R81, R112, R142, R149, R171), the power-on condition and the entry to START (R1,
R2). -/

namespace Sys2Proof.Machine

/-! ## Who the station is -/

/-- The role read from the straps, none before they are read (R3). -/
def State.role (s : State) : Option Role := s.lc.straps.map (·.role)

def State.isRole (s : State) (r : Role) : Bool := s.role == some r

/-- BLADE or UPLINK: the roles whose power the sequencer controls (00_scope.md, "Consumer"). -/
def State.consumer (s : State) : Bool := s.isRole .blade || s.isRole .uplink

/-- The own slot (R3); 0 stands while none is held, and nothing reads it then. -/
def State.ownSlot (s : State) : Nat :=
  match s.lc.straps with
  | some x => x.slot
  | none => 0

def State.inLife (s : State) (l : Life) : Bool := s.lc.life == some l

/-- A goodbye wait runs: of a restart (R15) or of a surprise removal (R180). -/
def Timer.isRunning : Timer → Bool
  | .running _ => true
  | .stopped _ => false

def State.waiting (s : State) : Bool := s.lc.restartWait.isRunning || s.lc.unseatedWait.isRunning

/-! ## The reference clock and the timers (R83) -/

/-- One bit time in reference-clock ticks at a rate (R16). -/
def Rate.ticks : Rate → Nat
  | .k125 => 200
  | .k250 => 100
  | .k500 => 50
  | .k1000 => 25

/-- The rate of the station's bit times: the bus rate, or the strap default while unlocked (R38). -/
def State.rateInUse (s : State) : Rate :=
  match s.bi.rate, s.lc.straps with
  | some r, _ => r
  | none, some x => x.rate
  | none, none => .k125

/-- One bit time in ticks. -/
def State.bitTicks (s : State) : Nat := s.rateInUse.ticks

/-- One round in ticks: N_A × 1,024 bit times (00_scope.md, "Round"). -/
def State.roundTicks (s : State) : Nat := s.lc.keys.nA * 1024 * s.bitTicks

/-- One beat in ticks: N_B × 1,024 bit times (00_scope.md, "Beat"). -/
def State.beatTicks (s : State) : Nat := s.lc.keys.nB * 1024 * s.bitTicks

/-- Milliseconds in ticks. -/
def msTicks (ms : Nat) : Nat := ms * Config.ticksPerMs

/-- A timer that starts now and ends after so many ticks. -/
def State.after (s : State) (ticks : Nat) : Timer := .running (s.now + ticks)

def State.afterMs (s : State) (ms : Nat) : Timer := s.after (msTicks ms)

/-- A timer of so many rounds, counted from now and not from the timer A expiries (R83). -/
def State.afterRounds (s : State) (n : Nat) : Timer := s.after (n * s.roundTicks)

/-- The time a timer has left. -/
def Timer.leftAt (t : Timer) (now : Nat) : Nat :=
  match t with
  | .stopped left => left
  | .running due => due - now

/-- Stop a timer where it stands, keeping its remaining time (R108). -/
def Timer.freeze (t : Timer) (now : Nat) : Timer := .stopped (t.leftAt now)

/-- Carry the clock to the moment a running timer ends: the command that is the timer's end says that this moment has
come (log entry 1). -/
def State.reach (s : State) (t : Timer) : State :=
  match t with
  | .running due => { s with now := max s.now due }
  | .stopped _ => s

/-- A division that rounds up. -/
def ceilDiv (a b : Nat) : Nat := (a + b - 1) / b

/-- A remaining time in whole rounds, rounded up (R198). -/
def State.roundsLeft (s : State) (t : Timer) : Nat := ceilDiv (t.leftAt s.now) s.roundTicks

/-- A remaining time in milliseconds, rounded up (log entry 12). -/
def State.msLeft (s : State) (t : Timer) : Nat := ceilDiv (t.leftAt s.now) Config.ticksPerMs

/-! ## Counts -/

/-- One more, saturating (00_scope.md, "Counters"). -/
def satSucc (limit n : Nat) : Nat := min (n + 1) limit

/-- One more on a 16-bit bus statistic (R39). -/
def bump (n : Nat) : Nat := satSucc 65535 n

/-- Change the bus statistics. -/
def State.count (s : State) (f : BusStats → BusStats) : State :=
  { s with bi := { s.bi with stats := f s.bi.stats } }

/-! ## Lanes -/

/-- The slot a lane is RESERVED, GRANTED or DRAINING for. -/
def LaneUse.slot? : LaneUse → Option Nat
  | .reserved s => some s
  | .granted s => some s
  | .draining s _ => some s
  | .faulted => none

/-- The lanes in use: RESERVED, GRANTED or DRAINING (R149). -/
def lanesInUse (lanes : SlotMap LaneUse) : Nat := (lanes.filter (fun p => p.2.slot?.isSome)).length

/-- The lanes of a slot (R149). -/
def lanesOf (lanes : SlotMap LaneUse) (slot : Nat) : Nat :=
  (lanes.filter (fun p => p.2.slot? == some slot)).length

/-- Whether a lane is GRANTED to a slot. -/
def LaneUse.grantedTo (slot : Nat) : LaneUse → Bool
  | .granted t => t == slot
  | .reserved _ | .draining _ _ | .faulted => false

def LaneUse.isGranted : LaneUse → Bool
  | .granted _ => true
  | .reserved _ | .draining _ _ | .faulted => false

def LaneUse.isReserved : LaneUse → Bool
  | .reserved _ => true
  | .granted _ | .draining _ _ | .faulted => false

/-- A set of lanes as 16 flags, bit k for lane k (12_formats_and_signals.md, LANE_GRANT). -/
def laneFlags (lanes : List Nat) : Half := BitVec.ofNat 16 (lanes.foldl (fun a k => a ||| 2 ^ k) 0)

/-- The held set of a slot: the lanes GRANTED to it (R150). -/
def heldSet (lanes : SlotMap LaneUse) (slot : Nat) : Half :=
  laneFlags ((lanes.filter (fun p => p.2.grantedTo slot)).map (·.1))

/-- The numbers of the FREE lanes, lowest first. -/
def freeLanes (lanes : SlotMap LaneUse) : List Nat :=
  (List.range Config.lanes).filter (fun k => (slotGet lanes k).isNone)

/-! ## Output pins -/

/-- The role of strap pins (R3; 12_formats_and_signals.md, Pins). -/
def strapRole (p : StrapPins) : Role :=
  match p.role.toNat with
  | 0 => .blade
  | 1 => .fan
  | 2 => .power
  | _ => .uplink

def strapRate (p : StrapPins) : Rate :=
  match p.rate.toNat with
  | 0 => .k125
  | 1 => .k250
  | 2 => .k500
  | _ => .k1000

/-- The power states in which PWR_EN of a consumer is high (R81). -/
def PowerState.energised : PowerState → Bool
  | .enabling | .on | .stopping => true
  | .off | .claiming | .cooldown | .fault => false

/-- PWR_EN: low at power-on (R1); by the role straps as they stand in START (R2); then by the role: the sequencer's state
(R81), always high in FAN role (R4, R105), the supply's output in POWER role (R112). -/
def State.pwrEn (s : State) : Bool :=
  match s.lc.life with
  | none => false
  | some .start => strapRole s.pins.straps == .fan || strapRole s.pins.straps == .power
  | some _ =>
    match s.role with
    | some .blade | some .uplink => s.ps.power.energised
    | some .fan => true
    | some .power => s.sup.output
    | none => false

/-- THROTTLE (R81). -/
def State.throttle (s : State) : Bool :=
  s.consumer && (s.inLife .active || s.inLife .removable) && s.ps.level == .floor &&
    (s.ps.power == .claiming || s.ps.power.energised)

/-- PWM duty in percent: the applied duty in FAN role, 100 elsewhere (R1, R2, R135, R142). -/
def State.pwm (s : State) : Nat := s.fc.applied

/-- LANE_EN of a lane: high while GRANTED or DRAINING (R149). -/
def State.laneEn (s : State) (lane : Nat) : Bool :=
  match slotGet s.lm.lanes lane with
  | some (.granted _) | some (.draining _ _) => true
  | some (.reserved _) | some .faulted | none => false

/-- READY_LED: on in REMOVABLE and HALTED (R171), off in every other life state and at power-on (R1). -/
def State.readyLed (s : State) : Bool := s.inLife .removable || s.inLife .halted

/-- ATTN: at least one event latched and unmasked (R188). -/
def State.attn (s : State) : Bool := (s.lp.latched &&& s.lp.mask) != 0

/-- The line is driven dominant by an own shed pulse (R37). -/
def State.drivesPulse (s : State) : Bool := s.bi.pulse.isRunning

/-! ## Power-on and START -/

/-- The power-on condition (R1): all of the station's state is abandoned; the pins are the outside's, the clock goes on
and the commands still wait. -/
def State.powerOn (s : State) : State :=
  { State.reset with now := s.now, pending := s.pending, pins := s.pins }

/-- Entry to START (R1, R2): every block takes its initial state, and the settle time starts. The result buffer is
empty, except for the DONE of a RESTART that R15 keeps. -/
def State.enterStart (keepResult : Bool) (s : State) : State :=
  let fresh := s.powerOn
  { fresh with
    lc := { fresh.lc with life := some .start, settle := s.afterMs Config.settleMs }
    lp := { fresh.lp with result := if keepResult then some [0] else none } }

end Sys2Proof.Machine
end

