-- ==== Sys2Proof/Machine/Flags.lean ====
section
/-! DEFINITION. The latched events of the local port: the event word, its causes, and how a latch adds to them (R186,
R188, R194, R196). -/

namespace Sys2Proof.Machine

/-- The fourteen events, in the order of their bits (12_formats_and_signals.md, "The event word"). -/
inductive Event where
  | roster | power | shed | budget | redundancy | lane | raiseDenied | sensor | fan | overload | bus | eject | mail
  | mailOverflow
  deriving DecidableEq, Repr

/-- The bit of an event in the event word. -/
def Event.bit : Event → Nat
  | .roster => 0
  | .power => 1
  | .shed => 2
  | .budget => 3
  | .redundancy => 4
  | .lane => 5
  | .raiseDenied => 6
  | .sensor => 7
  | .fan => 8
  | .overload => 9
  | .bus => 10
  | .eject => 11
  | .mail => 12
  | .mailOverflow => 13

/-- The event word with one event. -/
def Event.word (e : Event) : Half := BitVec.ofNat 16 (2 ^ e.bit)

/-- The used bits of the event word: 0x3FFF. -/
def allEvents : Half := 0x3FFF#16

/-- Whether an event is latched. -/
def State.hasEvent (s : State) (e : Event) : Bool := s.lp.latched.getLsbD e.bit

/-- Latch an event and change its causes. While RESET_N stays asserted no event is latched (R194). -/
def State.latchWith (s : State) (e : Event) (causes : LocalPort → LocalPort) : State :=
  if s.pins.resetAsserted then s
  else { s with lp := { causes s.lp with latched := s.lp.latched ||| e.word } }

/-- Latch an event without causes. -/
def State.latch (s : State) (e : Event) : State := s.latchWith e id

/-- Clear an event. -/
def clearEvent (e : Event) (w : Half) : Half := w &&& ~~~e.word

/-- POWER: the cause of the last latch (R186). -/
def State.latchPower (s : State) (c : PowerCause) : State :=
  s.latchWith .power (fun p => { p with powerCause := c })

def ShedCause.bitMask : ShedCause → Byte
  | .pulse => 1
  | .budget => 2
  | .thermal => 4

/-- SHED: the set of causes (R186). -/
def State.latchShed (s : State) (c : ShedCause) : State :=
  s.latchWith .shed (fun p => { p with shedCauses := p.shedCauses ||| c.bitMask })

/-- RAISE_DENIED of kind LEVEL (bit 0) or AMOUNT (bit 1). -/
def State.latchRaiseDenied (s : State) (amount : Bool) : State :=
  s.latchWith .raiseDenied (fun p => { p with raiseCauses := p.raiseCauses ||| (if amount then 2 else 1) })

/-- FAN with ROTOR (bit 0) or SUSTAINED (bit 1). -/
def State.latchFan (s : State) (sustained : Bool) : State :=
  s.latchWith .fan (fun p => { p with fanCauses := p.fanCauses ||| (if sustained then 2 else 1) })

/-- The causes of the BUS event (R196). -/
inductive BusCause where
  | mute | clash | selfStale | rateLocked | aloneStart
  deriving DecidableEq, Repr

def BusCause.bitMask : BusCause → Byte
  | .mute => 1
  | .clash => 2
  | .selfStale => 4
  | .rateLocked => 8
  | .aloneStart => 16

def State.latchBus (s : State) (c : BusCause) : State :=
  s.latchWith .bus (fun p => { p with busCauses := p.busCauses ||| c.bitMask })

/-- EJECT with OPENED (bit 0) or CLOSED (bit 1). -/
def State.latchEject (s : State) (h : Handle) : State :=
  s.latchWith .eject
    (fun p => { p with ejectCauses := p.ejectCauses ||| (match h with | .opened => 1 | .closed => 2) })

/-- LANE: the last outcome and the uplink slot (R186). -/
def State.latchLane (s : State) (o : LastOutcome) (slot : Nat) : State :=
  s.latchWith .lane (fun p => { p with laneOutcome := o, laneSlot := slot })

end Sys2Proof.Machine
end

