-- ==== Sys2Proof/Machine/Operands.lean ====
section
/-! DEFINITION. Reading the fields of a payload and composing them (12_formats_and_signals.md, Payload layouts; R195):
codes, temperatures, the adjustments of values outside their range, and the signed and coded operands of packets
(R197). -/

namespace Sys2Proof.Machine

/-! ## Codes -/

def Role.code : Role → Nat
  | .blade => 0
  | .fan => 1
  | .power => 2
  | .uplink => 3

def roleOfCode (n : Nat) : Role :=
  match n with
  | 0 => .blade
  | 1 => .fan
  | 2 => .power
  | _ => .uplink

def PowerState.code : PowerState → Nat
  | .off => 0
  | .claiming => 1
  | .enabling => 2
  | .on => 3
  | .stopping => 4
  | .cooldown => 5
  | .fault => 6

/-- A power-state code of 7 is taken as OFF (R195). -/
def powerOfCode (n : Nat) : PowerState :=
  match n with
  | 1 => .claiming
  | 2 => .enabling
  | 3 => .on
  | 4 => .stopping
  | 5 => .cooldown
  | 6 => .fault
  | _ => .off

def Level.code : Level → Nat
  | .full => 0
  | .floor => 1

def levelOfBit (b : Bool) : Level := if b then .floor else .full

def SupplyState.code : SupplyState → Nat
  | .offline => 0
  | .good => 1
  | .warm => 2
  | .failed => 3

def supplyOfCode (n : Nat) : SupplyState :=
  match n with
  | 0 => .offline
  | 1 => .good
  | 2 => .warm
  | _ => .failed

def Feed.code : Feed → Nat
  | .a => 0
  | .b => 1

def LaneOutcome.code : LaneOutcome → Nat
  | .granted => 0
  | .denied => 1
  | .revoked => 2
  | .released => 3

def outcomeOfCode (n : Nat) : Option LaneOutcome :=
  match n with
  | 0 => some .granted
  | 1 => some .denied
  | 2 => some .revoked
  | 3 => some .released
  | _ => none

def LaneReason.code : LaneReason → Nat
  | .noReason => 0
  | .noPower => 1
  | .stopping => 2
  | .notPowered => 3
  | .limit => 4
  | .queueFull => 5
  | .noLanes => 6
  | .laneFault => 7
  | .shed => 8
  | .uplinkOff => 9

def reasonOfCode (n : Nat) : Option LaneReason :=
  match n with
  | 0 => some .noReason
  | 1 => some .noPower
  | 2 => some .stopping
  | 3 => some .notPowered
  | 4 => some .limit
  | 5 => some .queueFull
  | 6 => some .noLanes
  | 7 => some .laneFault
  | 8 => some .shed
  | 9 => some .uplinkOff
  | _ => none

/-! ## Bytes and numbers -/

/-- One result or payload byte of a number. -/
def byte (n : Nat) : Byte := BitVec.ofNat 8 n

/-- Two bytes of a number, most significant first. -/
def bytes2 (n : Nat) : List Byte := natBytes 2 n

def flag (b : Bool) : Byte := if b then 1 else 0

/-- A signed 16-bit value as its two bytes. -/
def signedBytes (i : Int) : List Byte := natBytes 2 (BitVec.ofInt 16 i).toNat

/-- A temperature in two bytes: two's complement, INVALID as 0x8000 (12_formats_and_signals.md). -/
def Reading.bytes : Reading → List Byte
  | .invalid => [0x80, 0x00]
  | .deg c => signedBytes c

/-- A value brought into a range. -/
def clampInt (lo hi v : Int) : Int := if v < lo then lo else if hi < v then hi else v

def clampNat (lo hi v : Nat) : Nat := if v < lo then lo else if hi < v then hi else v

/-- A hottest reading as received (R195). -/
def readingOfWord (w : Half) : Reading :=
  if w = 0x8000#16 then .invalid else .deg (clampInt (-40) 150 w.toInt)

/-- A byte of a payload; a payload of the kind's length has it. -/
def byteAt (p : List Byte) (k : Nat) : Nat := (p.getD k 0).toNat

/-- Two bytes of a payload from place k on. -/
def halfAt (p : List Byte) (k : Nat) : Nat := byteAt p k * 256 + byteAt p (k + 1)

/-! ## Payloads read -/

/-- Amount, floor and priority as R63 takes them: amount into 1 to 400, floor at most the amount, priority at most 7. -/
def adjustClaim (amount floor priority : Nat) (level : Level) : ClaimPart :=
  let a := clampNat 1 400 amount
  { amount := a, floor := min floor a, priority := min priority 7, level := level }

/-- CLAIM: amount, floor, then level in bit 7 and priority in bits 3 to 0. -/
def readClaim (p : List Byte) : ClaimPart :=
  adjustClaim (halfAt p 0) (halfAt p 2) (byteAt p 4 % 16) (levelOfBit (128 ≤ byteAt p 4))

/-- CAPACITY: capacity at most 400, feed in bit 7, supply state in bits 1 and 0. -/
def readCapacity (p : List Byte) : SupplyPart :=
  { capacity := min (halfAt p 0) 400
    state := supplyOfCode (byteAt p 2 % 4)
    feed := if 128 ≤ byteAt p 2 then .b else .a }

/-- FANSTAT: rotors fitted into 1 to 4, rotors failed at most 4, duty at most 100, sustained flag in bit 0. -/
def readFanstat (p : List Byte) : FanPart :=
  { fitted := clampNat 1 4 (byteAt p 0 / 16)
    failed := min (byteAt p 0 % 16) 4
    duty := min (byteAt p 1) 100
    sustained := byteAt p 2 % 2 == 1 }

/-- What an ANNOUNCE carries. -/
structure Announcement where
  role  : Role
  power : PowerState
  level : Level
  claim : Option ClaimPart
  flags : ReportedFlags
  deriving DecidableEq, Repr

/-- ANNOUNCE: role in bits 7 and 6, power state in bits 5 to 3, level in bit 2, claim present in bit 1; amount, floor,
priority, read only with the claim present (R195); the flags in bits 0 to 2 of byte 6. -/
def readAnnounce (p : List Byte) : Announcement :=
  let b := byteAt p 0
  let level := levelOfBit (b / 4 % 2 == 1)
  { role := roleOfCode (b / 64)
    power := powerOfCode (b / 8 % 8)
    level := level
    claim := if b / 2 % 2 == 1 then some (adjustClaim (halfAt p 1) (halfAt p 3) (byteAt p 5 % 16) level) else none
    flags :=
      { selfStale := byteAt p 6 % 2 == 1
        shedRunning := byteAt p 6 / 2 % 2 == 1
        supplyOffline := byteAt p 6 / 4 % 2 == 1 } }

/-- JOIN: role in bits 7 and 6, type code, revision, serial. -/
def readJoin (p : List Byte) : Role × Identity :=
  (roleOfCode (byteAt p 0 / 64),
   { typeCode := halfAt p 1, revision := byteAt p 3, serial := BitVec.ofNat 64 (beNat (p.drop 4)) })

/-- THERMAL: demand brought into 20 to 100 (R136), hottest reading as R195 takes it. -/
def readThermal (p : List Byte) : Nat × Reading :=
  (clampNat 20 100 (byteAt p 0), readingOfWord (BitVec.ofNat 16 (halfAt p 1)))

/-- A target or destination slot: bits 5 to 0 (R195). -/
def targetSlot (p : List Byte) : Nat := byteAt p 0 % 64

/-- LANE_GRANT: outcome, reason and held set; none when the outcome or the reason has no meaning (R195). -/
def readGrant (p : List Byte) : Option (Answer × Half) :=
  match outcomeOfCode (byteAt p 1), reasonOfCode (byteAt p 2) with
  | some o, some r => some ({ outcome := o, reason := r }, BitVec.ofNat 16 (halfAt p 3))
  | _, _ => none

/-! ## Payloads composed (R195: every bit no table names is 0) -/

def claimPayload (c : Claim) : List Byte :=
  bytes2 c.amount ++ bytes2 c.floor ++ [byte (c.level.code * 128 + c.priority)]

def capacityPayload (x : SupplyPart) : List Byte :=
  bytes2 x.capacity ++ [byte (x.feed.code * 128 + x.state.code)]

def fanstatPayload (x : FanPart) : List Byte :=
  [byte (x.fitted * 16 + x.failed), byte x.duty, flag x.sustained]

def thermalPayload (demand : Nat) (hottest : Reading) : List Byte := byte demand :: hottest.bytes

/-- The payload of an ANNOUNCE; amount, floor and priority are 0 while no own claim is present, in every role (log entry
59). -/
def announcePayload (e : RosterEntry) : List Byte :=
  let power := (e.power.getD .off).code
  let level := (e.level.getD .full).code
  let flags := e.flags.selfStale.toNat + 2 * e.flags.shedRunning.toNat + 4 * e.flags.supplyOffline.toNat
  match e.claim with
  | some c =>
    [byte (e.role.code * 64 + power * 8 + level * 4 + 2)] ++ bytes2 c.amount ++ bytes2 c.floor ++
      [byte c.priority, byte flags]
  | none => [byte (e.role.code * 64 + power * 8 + level * 4), 0, 0, 0, 0, 0, byte flags]

def joinPayload (role : Role) (i : Identity) : List Byte :=
  [byte (role.code * 64)] ++ bytes2 i.typeCode ++ [byte i.revision] ++ natBytes 8 i.serial.toNat

def grantPayload (target : Nat) (a : Answer) (held : Half) : List Byte :=
  [byte target, byte a.outcome.code, byte a.reason.code] ++ halfBytes held

end Sys2Proof.Machine
end

