-- ==== Sys2Proof/Machine/Budget.lean ====
section
/-! DEFINITION. The own roster entry (R41) and the budget unit (04_power_budget.md): rank order, the five capacity
stages, the admitted prefix, and the recompute with its events. -/

namespace Sys2Proof.Machine

/-! ## The own claim and the own entry -/

/-- The claim of a slot in the claim table. -/
def claimOf (claims : List Claim) (slot : Nat) : Option Claim :=
  match claims with
  | [] => none
  | c :: cs => if c.slot = slot then some c else claimOf cs slot

/-- The own claim, written by PS alone (R64). -/
def State.ownClaim (s : State) : Option Claim := claimOf s.bu.claims s.ownSlot

/-- The own claim's admitted mark (R74); no while there is none. -/
def State.ownMark (s : State) : Bool :=
  match s.ownClaim with
  | some c => c.admitted
  | none => false

/-- The number of rotors failed (R145). Rotors beyond those fitted stay OK (R143). -/
def rotorsFailed (rotors : Quad Rotor) : Nat := (rotors.list.filter (·.failed)).length

/-- The own identity, from the configuration (R41). -/
def State.ownIdentity (s : State) : Identity :=
  { typeCode := s.lc.keys.typeCode, revision := s.lc.keys.revision, serial := s.lc.keys.serial }

/-- The own supply part (R41, R110). -/
def State.ownSupply (s : State) : SupplyPart :=
  { capacity := s.sup.reported
    state := s.sup.state
    feed :=
      match s.lc.straps with
      | some x => x.feed.getD .a
      | none => .a }

/-- The own fan part (R41, R147). -/
def State.ownFan (s : State) : FanPart :=
  { fitted := s.lc.keys.rotorsFitted
    failed := rotorsFailed s.fc.rotors
    duty := s.fc.applied
    sustained := s.fc.sustainedFlag }

/-- The claim part of a claim (R40, R63). -/
def Claim.part (c : Claim) : ClaimPart :=
  { amount := c.amount, floor := c.floor, priority := c.priority, level := c.level }

/-- The own entry as RO fills it from own state, moment to moment (R41; R111 in POWER role). -/
def State.ownEntry (s : State) (role : Role) : RosterEntry :=
  { role := role
    identity := some s.ownIdentity
    power := some (if role = .power then (if s.pwrEn then .on else .off) else s.ps.power)
    level := some (if role = .power then .full else s.ps.level)
    flags :=
      { selfStale := s.ro.selfStale
        shedRunning := if role = .power then s.sup.guard.isRunning else s.ps.shedHold.isRunning
        supplyOffline := role == .power && s.sup.state == .offline }
    claim := s.ownClaim.map Claim.part
    supply := if role = .power then some s.ownSupply else none
    fan := if role = .fan then some s.ownFan else none
    silence := 0 }

/-- The own entry when it is PRESENT. -/
def State.ownEntry? (s : State) : Option RosterEntry :=
  match s.role with
  | some r => if s.ro.ownPresent then some (s.ownEntry r) else none
  | none => none

/-- The PRESENT entry of a slot (R40, R41). -/
def State.entryOf (s : State) (slot : Nat) : Option RosterEntry :=
  if slot = s.ownSlot then s.ownEntry? else slotGet s.ro.entries slot

/-- All PRESENT entries, the own one last. -/
def State.presentEntries (s : State) : List RosterEntry := s.ro.entries.map (·.2) ++ s.ownEntry?.toList

/-! ## Rank (R62) -/

/-- A number that orders claims as R62 does: FAN claims first by slot, then RANKED claims by priority and slot. -/
def Claim.rank (c : Claim) : Nat :=
  match c.cls with
  | .fan => c.slot
  | .ranked => (c.priority + 1) * 64 + c.slot

/-- Enter a claim at the place its rank gives. -/
def insertClaim (c : Claim) : List Claim → List Claim
  | [] => [c]
  | x :: xs => if c.rank < x.rank then c :: x :: xs else x :: insertClaim c xs

/-- Drop the claim of a slot. -/
def dropClaim (slot : Nat) : List Claim → List Claim
  | [] => []
  | x :: xs => if x.slot = slot then dropClaim slot xs else x :: dropClaim slot xs

/-! ## Capacity stages -/

/-- The supply set (R65): supplies that report a capacity above 0 and are neither OFFLINE nor FAILED. The supply part alone
decides: a CAPACITY after an ANNOUNCE with the supply-offline flag replaces the part (R46) and brings its supply back (log
entry 60). -/
def supplySet (entries : List RosterEntry) : List SupplyPart :=
  entries.filterMap fun e =>
    if e.role = .power then
      match e.supply with
      | some x => if 0 < x.capacity && x.state != .offline && x.state != .failed then some x else none
      | none => none
    else none

def sumCap (xs : List SupplyPart) : Nat := (xs.map (·.capacity)).sum

def maxCap (xs : List SupplyPart) : Nat := xs.foldl (fun a x => max a x.capacity) 0

/-- The supply sum S and REDUNDANCY_LOST (R66, R67). -/
def supplySum (mode : Redundancy) (n sum largest sumA sumB : Nat) : Nat × Bool :=
  match mode with
  | .noRedundancy => (sum, false)
  | .nPlusOne => if n = 0 then (0, false) else if n = 1 then (sum, true) else (sum - largest, false)
  | .halfFeeds =>
    if 0 < sumA ∧ 0 < sumB then (min sumA sumB, false)
    else if 0 < sumA then (sumA, true)
    else if 0 < sumB then (sumB, true)
    else (0, false)

/-- The fan fault count F, the sustained mark H and the number of PRESENT FAN entries (R69). -/
def fanFaults (expected : Nat) (entries : List RosterEntry) : Nat × Nat × Nat :=
  let fans := entries.filter (fun e => e.role == .fan)
  let failed := (fans.map fun e => match e.fan with | some x => x.failed | none => 0).sum
  let sustained := fans.any fun e => match e.fan with | some x => x.sustained | none => false
  (fans.length, failed + 4 * (expected - fans.length), if sustained then 1 else 0)

/-- The derate D (R69). -/
def derate (f d h : Nat) : Nat := min (f * d + 10 * h) 60

/-- C_d = floor(S × (100 − D) / 100) (R70). -/
def deratedCapacity (s d : Nat) : Nat := s * (100 - d) / 100

/-- The five stages from the roster and the configuration (R65 to R70). -/
def computeStages (k : Keys) (entries : List RosterEntry) : Stages :=
  let set := supplySet entries
  let a := set.filter (fun x => x.feed == .a)
  let b := set.filter (fun x => x.feed == .b)
  let sum := supplySum k.redundancy set.length (sumCap set) (maxCap set) (sumCap a) (sumCap b)
  let fans := fanFaults k.expectedFans entries
  let d := derate fans.2.1 k.derateStep fans.2.2
  let cd := deratedCapacity sum.1 d
  { n := set.length
    sum := sumCap set
    largest := maxCap set
    sumA := sumCap a
    sumB := sumCap b
    s := sum.1
    lost := sum.2
    fans := fans.1
    f := fans.2.1
    h := fans.2.2
    d := d
    cd := cd
    cEff := cd - k.reserve }

/-! ## The admitted prefix (R71) -/

/-- Walk the table from the front: a claim is admitted while every claim before it is and the running sum, its own
amount included, is at most C_eff. -/
def markClaims (cEff : Nat) : Nat → Bool → List Claim → List Claim
  | _, _, [] => []
  | sum, fits, c :: cs =>
    let ok := fits && decide (sum + c.amount ≤ cEff)
    { c with admitted := ok } :: markClaims cEff (sum + c.amount) ok cs

def admittedCount (claims : List Claim) : Nat := (claims.filter (·.admitted)).length

def admittedSum (claims : List Claim) : Nat := ((claims.filter (·.admitted)).map (·.amount)).sum

/-! ## Recompute (R68, R73, R76) -/

/-- The budget after a recompute. -/
def State.recomputed (s : State) : Budget :=
  let st := computeStages s.lc.keys s.presentEntries
  let claims := markClaims st.cEff 0 true s.bu.claims
  { claims := claims
    stages := { st with prefixLen := admittedCount claims, prefixSum := admittedSum claims } }

/-- BU recomputes every stage and the prefix, and latches REDUNDANCY and BUDGET when REDUNDANCY_LOST or C_eff comes out
different from before (R68, R76). A station configured NONE never latches REDUNDANCY, nor where its change to NONE has
cleared the flag (R68; log entry 39). -/
def recompute (s : State) : State :=
  let b := s.recomputed
  let s1 := { s with bu := b }
  let s2 :=
    if b.stages.lost != s.bu.stages.lost && s.lc.keys.redundancy != .noRedundancy then s1.latch .redundancy else s1
  if b.stages.cEff != s.bu.stages.cEff then s2.latch .budget else s2

/-- The same claim but for its mark. -/
def Claim.same (a b : Claim) : Bool := { a with admitted := false } == { b with admitted := false }

/-- Enter or replace a slot's claim; one with the same fields changes nothing and causes no recompute (R63, R64). -/
def setClaim (c : Claim) (s : State) : State :=
  match claimOf s.bu.claims c.slot with
  | some old =>
    if old.same c then s
    else recompute { s with bu := { s.bu with claims := insertClaim c (dropClaim c.slot s.bu.claims) } }
  | none => recompute { s with bu := { s.bu with claims := insertClaim c (dropClaim c.slot s.bu.claims) } }

/-- Remove a slot's claim; a removal for a slot with no claim leaves the table unchanged (R63). -/
def delClaim (slot : Nat) (s : State) : State :=
  match claimOf s.bu.claims slot with
  | some _ => recompute { s with bu := { s.bu with claims := dropClaim slot s.bu.claims } }
  | none => s

end Sys2Proof.Machine
end

