-- ==== Sys2Proof/Machine/Bus.lean ====
section
/-! DEFINITION. The outbound side of the bus interface: posting (R29, R32), the lane outbox and its notify flags (R150,
R164), the start of a frame with its content (R30), and the ending of a transmission at its entry (R31). -/

namespace Sys2Proof.Machine

/-! ## Entries -/

def KindEntries.at (e : KindEntries) : OwnKind → Entry
  | .claim => e.claim
  | .release => e.release
  | .capacity => e.capacity
  | .fanstat => e.fanstat
  | .thermal => e.thermal
  | .announce => e.announce
  | .join => e.join
  | .leave => e.leave

def KindEntries.put (e : KindEntries) (k : OwnKind) (x : Entry) : KindEntries :=
  match k with
  | .claim => { e with claim := x }
  | .release => { e with release := x }
  | .capacity => { e with capacity := x }
  | .fanstat => { e with fanstat := x }
  | .thermal => { e with thermal := x }
  | .announce => { e with announce := x }
  | .join => { e with join := x }
  | .leave => { e with leave := x }

/-- RETRY if either mode is RETRY (R29). -/
def Mode.join (a b : Mode) : Mode := if a = .retry ∨ b = .retry then .retry else .single

/-- A post into a kind entry (R29). -/
def Entry.post (m : Mode) : Entry → Entry
  | .empty => .pending m
  | .pending old => .pending (old.join m)
  | .sending cur none => .sending cur (some m)
  | .sending cur (some again) => .sending cur (some (again.join m))

def State.putKind (s : State) (k : OwnKind) (x : Entry) : State :=
  { s with bi := { s.bi with kinds := s.bi.kinds.put k x } }

/-- Posts are taken unless the transmitter is OFF (R29) or a goodbye wait runs (R15, R180). -/
def State.takesPosts (s : State) : Bool := s.bi.txState != .off && !s.waiting

/-- A block posts a frame (R29). -/
def post (k : OwnKind) (m : Mode) (s : State) : State :=
  if s.takesPosts then s.putKind k ((s.bi.kinds.at k).post m) else s

/-- A periodic post from a timer (R32): late when it meets a PENDING entry. -/
def postPeriodic (k : OwnKind) (s : State) : State :=
  if s.takesPosts then
    match s.bi.kinds.at k with
    | .pending _ => s.count fun c => { c with latePeriodics := bump c.latePeriodics }
    | .empty => s.putKind k (.pending .single)
    | .sending cur again => s.putKind k (Entry.post .single (.sending cur again))
  else s

/-! ## The lane outbox -/

/-- The lane outbox has a free entry and takes posts (R29). -/
def State.laneRoom (s : State) : Bool := s.takesPosts && decide (s.bi.lanes.length < Config.laneOutbox)

def State.pushLane (s : State) (k : LaneKind) (target : Nat) : State :=
  { s with bi := { s.bi with lanes := s.bi.lanes ++ [{ kind := k, target := target, sending := false }] } }

def State.holder (s : State) (slot : Nat) : Holder := (slotGet s.lm.holders slot).getD {}

/-- Keep a holder record, or drop it when it holds nothing. -/
def State.putHolder (s : State) (slot : Nat) (h : Holder) : State :=
  { s with lm := { s.lm with
      holders := if h = {} then slotDel s.lm.holders slot else slotSet s.lm.holders slot h } }

/-- A lane-outbox entry carries a slot's answer (R150). -/
def LaneEntry.answers (e : LaneEntry) (slot : Nat) : Bool := e.kind == .grant && e.target == slot

/-- Post LANE_GRANT for a slot that has no lane-outbox entry; when the post is not taken, the notify flag is set
(R150). -/
def postGrant (slot : Nat) (s : State) : State :=
  if s.bi.lanes.any (·.answers slot) then s
  else if s.laneRoom then (s.pushLane .grant slot).putHolder slot { s.holder slot with notify := false }
  else s.putHolder slot { s.holder slot with notify := true }

/-- Write an answer into a slot's holder record and post it (R150). -/
def answer (slot : Nat) (a : Answer) (s : State) : State :=
  postGrant slot (s.putHolder slot { s.holder slot with answer := some a, inFlight := false })

def State.putRecord (s : State) (uplink : Nat) (r : LaneRecord) : State := { s with lb := slotSet s.lb uplink r }

/-- A record leaves use (R164): its release has been sent, and it holds no mark, no pending count and no lane. -/
def LaneRecord.spent (r : LaneRecord) : Bool := r.sent && !r.release && r.pending == 0 && r.held == 0

/-- Keep a record as changed, or drop it when it leaves use. -/
def State.keepRecord (s : State) (uplink : Nat) (r : LaneRecord) : State :=
  { s with lb := if r.spent then slotDel s.lb uplink else slotSet s.lb uplink r }

/-- A lane frame of a kind is PENDING for a target. -/
def State.hasPending (s : State) (k : LaneKind) (target : Nat) : Bool :=
  s.bi.lanes.any (fun e => e.kind == k && e.target == target && !e.sending)

/-- A LANE_REQUEST that is already PENDING for its uplink is not posted twice (R166; at REQUEST_LANES too, log entry 18). A
LANE_RELEASE takes an entry of its own at every post (R29). -/
def State.standsPosted (s : State) (k : LaneKind) (uplink : Nat) : Bool := k == .request && s.hasPending .request uplink

/-- Post a blade's lane frame into the next free entry (R29, R164). When the outbox is full, the record's notify flag is
set; a post that is taken, or that finds its LANE_REQUEST standing, clears it. -/
def postBlade (k : LaneKind) (uplink : Nat) (s : State) : State :=
  match slotGet s.lb uplink with
  | none => s
  | some r =>
    if s.standsPosted k uplink then s.putRecord uplink { r with notify := false }
    else if s.laneRoom then (s.pushLane k uplink).putRecord uplink { r with notify := false }
    else s.putRecord uplink { r with notify := true }

/-- The lowest slot that satisfies a test with its record. -/
def firstSlot {α : Type} (f : Nat → α → Bool) : SlotMap α → Option Nat
  | [] => none
  | (k, v) :: t => if f k v then some k else firstSlot f t

/-- The frame a blade's record calls for (R164). -/
def LaneRecord.calls (r : LaneRecord) : Option LaneKind :=
  if r.release then some .release else if 0 < r.pending then some .request else none

/-- A flagged record calls for a frame still to be posted. -/
def State.flagged (s : State) (uplink : Nat) (r : LaneRecord) : Bool :=
  r.notify &&
    (match r.calls with
     | some k => !s.standsPosted k uplink
     | none => false)

/-- A lane-outbox entry has been emptied: LM posts for the flagged record whose slot is lowest (R150, R164). -/
def laneFreed (s : State) : State :=
  if s.isRole .blade then
    match firstSlot s.flagged s.lb with
    | none => s
    | some u =>
      match (slotGet s.lb u).bind LaneRecord.calls with
      | none => s
      | some k => postBlade k u s
  else
    match firstSlot (fun _ (h : Holder) => h.notify) s.lm.holders with
    | none => s
    | some t => postGrant t s

/-- Remove the first lane-outbox entry that satisfies a test. -/
def dropLaneEntry (f : LaneEntry → Bool) : List LaneEntry → List LaneEntry
  | [] => []
  | e :: es => if f e then es else e :: dropLaneEntry f es

/-- Change the first lane-outbox entry that satisfies a test. -/
def changeLaneEntry (f : LaneEntry → Bool) (g : LaneEntry → LaneEntry) : List LaneEntry → List LaneEntry
  | [] => []
  | e :: es => if f e then g e :: es else e :: changeLaneEntry f g es

/-! ## Outbox records (R192) -/

def MailStatus.final : MailStatus → Bool
  | .sent | .failed | .aborted => true
  | .unused | .pending | .sending => false

/-- Move the status of an outbox record; a record unused since a local reset takes no status. -/
def State.setBox (s : State) (box : Nat) (st : MailStatus) : State :=
  let last := if st.final then box else s.lp.lastFinal
  if box = 0 then
    if s.lp.box0.status = .unused then s
    else { s with lp := { s.lp with box0 := { s.lp.box0 with status := st }, lastFinal := last } }
  else
    if s.lp.box1.status = .unused then s
    else { s with lp := { s.lp with box1 := { s.lp.box1 with status := st }, lastFinal := last } }

/-- The mail entry that is SENDING. -/
def sendingMail (ms : List MailEntry) : Option MailEntry :=
  match ms with
  | [] => none
  | m :: t => if m.sending then some m else sendingMail t

/-- Take the SENDING mail entry out, or put it back to PENDING. -/
def dropSendingMail (ms : List MailEntry) : List MailEntry := ms.filter (fun m => !m.sending)

def unsendMail (ms : List MailEntry) : List MailEntry := ms.map (fun m => { m with sending := false })

/-- Mark the first mail entry as SENDING. -/
def sendFirstMail : List MailEntry → List MailEntry
  | [] => []
  | m :: t => { m with sending := true } :: t

/-! ## The start of a frame (R30) -/

/-- What may start next: a kind entry, the first lane entry of a kind, or the first mail entry. -/
inductive Choice where
  | own (k : OwnKind)
  | lane (k : LaneKind)
  | mail
  deriving DecidableEq, Repr

/-- The choices in the order of their identifiers: kind × 64 + the own slot (R28). -/
def choices : List Choice :=
  [.own .claim, .own .release, .own .capacity, .own .fanstat, .lane .grant, .lane .request, .lane .release,
   .own .thermal, .own .announce, .own .join, .own .leave, .mail]

def Entry.isPending : Entry → Bool
  | .pending _ => true
  | .empty | .sending _ _ => false

def BusInterface.isPending (b : BusInterface) : Choice → Bool
  | .own k => (b.kinds.at k).isPending
  | .lane k => b.lanes.any (fun e => e.kind == k && !e.sending)
  | .mail => b.mails.any (fun m => !m.sending)

/-- The kind number of a choice (R24). -/
def Choice.kind : Choice → BitVec 4
  | .own .claim => 0
  | .own .release => 1
  | .own .capacity => 2
  | .own .fanstat => 3
  | .lane .grant => 4
  | .lane .request => 5
  | .lane .release => 6
  | .own .thermal => 7
  | .own .announce => 8
  | .own .join => 9
  | .own .leave => 10
  | .mail => 11

/-- BI may start a frame: ENABLED in ACTIVE; in REMOVABLE and in a goodbye wait only the LEAVE (R15, R30, R35, R180). -/
def State.mayStart (s : State) (c : Choice) : Bool :=
  if s.inLife .removable then c == .own .leave
  else if s.inLife .active && s.bi.txState == .enabled then !s.waiting || c == .own .leave
  else false

/-- The PENDING entry with the lowest identifier that may start. -/
def State.nextChoice (s : State) : Option Choice :=
  choices.find? (fun c => s.bi.isPending c && s.mayStart c)

/-- The target of the first PENDING lane entry of a kind. -/
def laneTarget (k : LaneKind) : List LaneEntry → Nat
  | [] => 0
  | e :: es => if e.kind = k && !e.sending then e.target else laneTarget k es

/-- The content of a kind entry, taken from its owner's present state (R30); none when the owner has none. -/
def State.ownContent (s : State) : OwnKind → Option (List Byte)
  | .claim => s.ownClaim.map claimPayload
  | .release =>
    match s.ownClaim with
    | some _ => none
    | none => some []
  | .capacity => if s.isRole .power then some (capacityPayload s.ownSupply) else none
  | .fanstat => if s.isRole .fan then some (fanstatPayload s.ownFan) else none
  | .thermal => s.sm.ownDemand.map (fun d => thermalPayload d (s.sm.hottest.getD .invalid))
  | .announce => s.role.map (fun r => announcePayload (s.ownEntry r))
  | .join => s.role.map (fun r => joinPayload r s.ownIdentity)
  | .leave => some []

/-- The content of a lane frame, from LM's record for the target (R150, R164). -/
def State.laneContent (s : State) (k : LaneKind) (target : Nat) : Option (List Byte) :=
  match k with
  | .grant => (s.holder target).answer.map (fun a => grantPayload target a (heldSet s.lm.lanes target))
  | .request =>
    match slotGet s.lb target with
    | some r => if 0 < r.pending then some [byte target, byte r.pending] else none
    | none => none
  | .release =>
    match slotGet s.lb target with
    | some r => if r.release then some [byte target] else none
    | none => none

/-- The content of the first mail entry. -/
def State.mailContent (s : State) : Option (List Byte) :=
  match s.bi.mails with
  | [] => none
  | m :: _ => some (byte m.dest :: m.data)

def State.content (s : State) : Choice → Option (List Byte)
  | .own k => s.ownContent k
  | .lane k => s.laneContent k (laneTarget k s.bi.lanes)
  | .mail => s.mailContent

def Entry.mode : Entry → Mode
  | .empty => .single
  | .pending m => m
  | .sending m _ => m

/-- Begin the transmission of a choice: the entry becomes SENDING and the frame is taken as it stands (R30). -/
def State.beginTx (s : State) (c : Choice) (payload : List Byte) : State :=
  let frame : Frame := { kind := c.kind, src := BitVec.ofNat 6 s.ownSlot, payload := payload }
  match c with
  | .own k =>
    let m := (s.bi.kinds.at k).mode
    { s with bi := { s.bi with
        idle := false
        kinds := s.bi.kinds.put k (.sending m none)
        tx := some { ref := .own k, mode := m, frame := frame, stopped := none, shedSeen := false, doomed := false } } }
  | .lane k =>
    let target := laneTarget k s.bi.lanes
    let s1 := { s with bi := { s.bi with
        idle := false
        lanes := changeLaneEntry (fun e => e.kind == k && !e.sending) (fun e => { e with sending := true }) s.bi.lanes
        tx := some { ref := .lane, mode := .retry, frame := frame, stopped := none, shedSeen := false,
                     doomed := false } } }
    if k = .grant then s1.putHolder target { s1.holder target with inFlight := true } else s1
  | .mail =>
    match s.bi.mails with
    | [] => s
    | m :: _ =>
      ({ s with bi := { s.bi with
          idle := false
          mails := sendFirstMail s.bi.mails
          tx := some { ref := .mail, mode := m.mode, frame := frame, stopped := none, shedSeen := false,
                       doomed := false } } }).setBox m.box .sending

/-- An entry whose owner has no content is emptied without a frame (R30). -/
def State.emptyChoice (s : State) (c : Choice) : State :=
  match c with
  | .own k => s.putKind k .empty
  | .lane k =>
    laneFreed { s with bi := { s.bi with
      lanes := dropLaneEntry (fun e => e.kind == k && !e.sending) s.bi.lanes } }
  | .mail => { s with bi := { s.bi with mails := s.bi.mails.drop 1 } }

/-- The line is free for a frame of the own station: idle, nothing in progress, no own pulse (R17, R30, R37). -/
def State.lineFree (s : State) : Bool := s.bi.idle && s.bi.tx.isNone && !s.bi.pulse.isRunning

/-- Choose again while the chosen entry has no content (R30); each choice made empties an entry, so the bound is never
met. -/
def startLoop : Nat → State → State
  | 0, s => s
  | n + 1, s =>
    match s.nextChoice with
    | none => s
    | some c =>
      match s.content c with
      | some payload => s.beginTx c payload
      | none => startLoop n (s.emptyChoice c)

/-- BI starts the PENDING entry with the lowest identifier when the bus is idle (R30). It is the last thing inside a
command (log entry 3). -/
def startFrame (s : State) : State := if s.lineFree then startLoop 64 s else s

/-! ## The ending of a transmission at its entry (R31) -/

/-- The four endings (R31). -/
inductive Ending where
  | success | arbitration | shed | bitError
  deriving DecidableEq, Repr

/-- What becomes of a kind entry: by ending and mode, emptied in any case when it is doomed (R35), and PENDING again
with the repeat mode when the repeat flag is set. -/
def Entry.ended (e : Ending) (doomed : Bool) : Entry → Entry
  | .sending _ (some again) => .pending again
  | .sending m none =>
    if doomed then .empty
    else
      match e, m with
      | .success, _ => .empty
      | .arbitration, _ | .shed, _ => .pending m
      | .bitError, .retry => .pending .retry
      | .bitError, .single => .empty
  | .empty => .empty
  | .pending m => .pending m

/-- Counts and failure run of an ending (R31, R39). A SINGLE entry ended by a bit error counts as a failed single also
where its repeat flag keeps it from being emptied (log entry 51). -/
def Ending.tally (e : Ending) (single : Bool) (b : BusInterface) : BusInterface :=
  match e with
  | .success => { b with failRun := 0, stats := { b.stats with sent := bump b.stats.sent } }
  | .arbitration => { b with stats := { b.stats with arbitration := bump b.stats.arbitration } }
  | .shed => { b with stats := { b.stats with shedDisturbance := bump b.stats.shedDisturbance } }
  | .bitError =>
    { b with
      failRun := satSucc Config.failLimit b.failRun
      stats := { b.stats with
        bitErrors := bump b.stats.bitErrors
        failedSingles := if single then bump b.stats.failedSingles else b.stats.failedSingles } }

/-- The first lane entry that is SENDING. -/
def sendingLane (es : List LaneEntry) : Option LaneEntry :=
  match es with
  | [] => none
  | e :: t => if e.sending then some e else sendingLane t

/-- Success of a lane frame at LM: a LANE_GRANT clears the answer it carried (R150), a LANE_RELEASE clears the release
mark, and a record with nothing left leaves use (R164). With the in-flight mark clear the freed entry serves the lowest
flagged record first, and then the newer answer of the slot (log entry 55). -/
def laneSent (e : LaneEntry) (s : State) : State :=
  match e.kind with
  | .grant =>
    let h := s.holder e.target
    if h.inFlight then laneFreed (s.putHolder e.target { h with answer := none, inFlight := false })
    else
      let s1 := laneFreed s
      if h.answer.isSome then postGrant e.target s1 else s1
  | .request => laneFreed s
  | .release =>
    match slotGet s.lb e.target with
    | none => laneFreed s
    | some r => laneFreed (s.keepRecord e.target { r with release := false, sent := true })

/-- A holder's LANE_GRANT has ended without success: the in-flight mark is cleared, and where its entry is gone an answer
still to send is flagged (R150). -/
def Holder.unsent (h : Holder) (gone : Bool) : Holder :=
  { h with inFlight := false, notify := h.notify || (gone && h.answer.isSome) }

/-- The ending of a lane frame: success takes the entry out; any other ending puts it back to PENDING and clears the
in-flight mark (R150), or takes it out when it is doomed (R35), with an answer still to send flagged for a later post
(R150, R179). -/
def endLane (e : Ending) (doomed : Bool) (s : State) : State :=
  match sendingLane s.bi.lanes with
  | none => s
  | some x =>
    let without := { s with bi := { s.bi with lanes := dropLaneEntry (·.sending) s.bi.lanes } }
    match e with
    | .success => laneSent x without
    | .arbitration | .shed | .bitError =>
      let s1 :=
        if doomed then without
        else { s with bi := { s.bi with
          lanes := changeLaneEntry (·.sending) (fun y => { y with sending := false }) s.bi.lanes } }
      let s2 := if x.kind = .grant then s1.putHolder x.target ((s1.holder x.target).unsent doomed) else s1
      if doomed then laneFreed s2 else s2

/-- The ending of a mail frame (R192). -/
def endMail (e : Ending) (doomed : Bool) (s : State) : State :=
  match sendingMail s.bi.mails with
  | none => s
  | some m =>
    let gone := { s with bi := { s.bi with mails := dropSendingMail s.bi.mails } }
    let back := { s with bi := { s.bi with mails := unsendMail s.bi.mails } }
    match e, m.mode with
    | .success, _ => gone.setBox m.box .sent
    | .bitError, .single => gone.setBox m.box .failed
    | .bitError, .retry | .arbitration, _ | .shed, _ =>
      if doomed then gone.setBox m.box .aborted else back.setBox m.box .pending

/-- The transmission in progress ends: counts, failure run, and its entry (R31). -/
def endTx (t : Tx) (e : Ending) (s : State) : State :=
  let single := t.mode == .single && t.ref != .orphan
  let s1 := { s with bi := { e.tally single s.bi with tx := none, idle := false } }
  match t.ref with
  | .own k => s1.putKind k ((s1.bi.kinds.at k).ended e t.doomed)
  | .lane => endLane e t.doomed s1
  | .mail => endMail e t.doomed s1
  | .orphan => s1

/-! ## Emptying the table -/

/-- A kind entry emptied while others' frames may be in progress: a SENDING entry stays until its frame has finished,
without its repeat flag (R35). -/
def Entry.emptied : Entry → Entry
  | .sending m _ => .sending m none
  | .empty | .pending _ => .empty

def emptyKinds (k : KindEntries) : KindEntries :=
  { claim := k.claim.emptied
    release := k.release.emptied
    capacity := k.capacity.emptied
    fanstat := k.fanstat.emptied
    thermal := k.thermal.emptied
    announce := k.announce.emptied
    join := k.join.emptied
    leave := k.leave }

/-- The outbox records of PENDING mail entries that are emptied take status ABORTED, in order of posting (R192). -/
def abortPending : List MailEntry → State → State
  | [], s => s
  | m :: t, s => abortPending t (if m.sending then s else s.setBox m.box .aborted)

/-- Every outbound entry but the LEAVE is emptied; a frame in progress is finished first, and its entry is emptied
whatever the ending (R15, R35, R180, R192). A holder whose answer has lost its entry is flagged (R150). -/
def emptyOutbound (s : State) : State :=
  let s1 := abortPending s.bi.mails s
  { s1 with
    bi := { s1.bi with
      kinds := emptyKinds s1.bi.kinds
      lanes := s1.bi.lanes.filter (·.sending)
      mails := s1.bi.mails.filter (·.sending)
      tx := s1.bi.tx.map (fun t => if t.ref = .own .leave then t else { t with doomed := true }) }
    lm := { s1.lm with
      holders := slotMap (fun t h =>
          if h.answer.isSome && !s1.bi.lanes.any (fun e => e.sending && e.answers t) then { h with notify := true }
          else h)
        s1.lm.holders } }

/-- Every outbound entry is emptied and a frame in progress is cut (R13): every mail record in use is ABORTED. A
transmission that had already stopped and waited to be classed is dropped too, and no ending of it is counted (log entry
36). -/
def cutOutbound (s : State) : State :=
  let s1 := abortPending (unsendMail s.bi.mails) s
  { s1 with bi := { s1.bi with kinds := {}, lanes := [], mails := [], tx := none } }

end Sys2Proof.Machine
end

