-- ==== Sys2Proof/Machine/LaneMap.lean ====
section
/-! DEFINITION. What the lane manager gives up and answers without asking whether the claim still fits: the own shed
(R160), power leaving ON (R161 at an uplink, R169 at a blade), and the end of a reservation (R155 to R160). The claim is
rewritten by those who call these. -/

namespace Sys2Proof.Machine

def State.withLanes (s : State) (m : SlotMap LaneUse) : State := { s with lm := { s.lm with lanes := m } }

/-- Lanes that satisfy a test become FREE. -/
def State.freeWhere (s : State) (f : LaneUse → Bool) : State := s.withLanes (s.lm.lanes.filter (fun p => !f p.2))

/-- Whether some lane is GRANTED to a slot. -/
def State.holds (s : State) (slot : Nat) : Bool := s.lm.lanes.any (fun p => p.2.grantedTo slot)

/-- The slots that hold GRANTED lanes, lowest first. -/
def State.holdingSlots (s : State) : List Nat := (List.range 64).filter s.holds

/-- The reservation ends: its lanes become FREE and the raise LM owns is over (R155). -/
def endReservation (s : State) : State :=
  let s1 := s.freeWhere LaneUse.isReserved
  { s1 with
    lm := { s1.lm with reservation := none }
    ps := { s1.ps with raise := if s1.ps.raise = .lanes then .noRaise else s1.ps.raise } }

/-- A queued request of a slot is removed. -/
def State.unqueue (s : State) (slot : Nat) : State :=
  { s with lm := { s.lm with queue := s.lm.queue.filter (fun r => r.slot != slot) } }

def State.isQueued (s : State) (slot : Nat) : Bool := s.lm.queue.any (fun r => r.slot == slot)

/-- The reservation in flight is of a slot. -/
def State.isReserving (s : State) (slot : Nat) : Bool :=
  match s.lm.reservation with
  | some r => r.slot == slot
  | none => false

/-- Answer slots one after another. -/
def answerAll (a : Answer) : List Nat → State → State
  | [], s => s
  | t :: ts, s => answerAll a ts (answer t a s)

def deniedBy (r : LaneReason) : Answer := { outcome := .denied, reason := r }

def revokedBy (r : LaneReason) : Answer := { outcome := .revoked, reason := r }

def releasedAnswer : Answer := { outcome := .released, reason := .noReason }

def grantedAnswer : Answer := { outcome := .granted, reason := .noReason }

/-- Every lane in use, the reservation and the queue are given up: holders of GRANTED lanes are answered with the first
answer, the others that wait with the second (R160, R161). The slot of the reservation is answered first, then the holders
from the lowest slot, then the queue in its order (log entry 56). -/
def giveUpLanes (revoke deny : Answer) (s : State) : State :=
  let holding := s.holdingSlots
  let reserving := s.lm.reservation.toList.map (·.slot)
  let queued := s.lm.queue.map (·.slot)
  let freed := (endReservation s).freeWhere (fun u => u.slot?.isSome)
  let emptied := { freed with lm := { freed.lm with queue := [] } }
  let s1 := answerAll deny (reserving.filter (fun t => !holding.contains t)) emptied
  let s2 := answerAll revoke holding s1
  answerAll deny (queued.filter (fun t => !holding.contains t)) s2

/-- The own shed of an uplink (R160). -/
def ownShed (s : State) : State :=
  if s.isRole .uplink then giveUpLanes (revokedBy .shed) (deniedBy .noPower) s else s

/-- A blade releases one lane record: held set and pending count cleared, window stopped, LANE_RELEASE posted (R169). -/
def releaseRecord (uplink : Nat) (s : State) : State :=
  match slotGet s.lb uplink with
  | none => s
  | some r =>
    postBlade .release uplink (s.putRecord uplink { r with held := 0, pending := 0, window := .stopped 0, release := true })

def releaseRecords : List Nat → State → State
  | [], s => s
  | u :: us, s => releaseRecords us (releaseRecord u s)

/-- PS tells LM that power is leaving ON: R161 at an uplink, with the reason of its denials; R169 at a blade, whose
records are released from the lowest uplink slot (log entry 63). -/
def leavingOn (deny : LaneReason) (s : State) : State :=
  if s.isRole .uplink then giveUpLanes (revokedBy .uplinkOff) (deniedBy deny) s
  else if s.isRole .blade then releaseRecords (s.lb.map (·.1)) s
  else s

end Sys2Proof.Machine
end

