-- ==== Sys2Proof/Machine/Sequencer.lean ====
section
/-! DEFINITION. The power sequencer's shared operations (05_module_power_sequencing.md): the own claim (R82), entries to
CLAIMING, COOLDOWN and FAULT, the drop to FLOOR (R93, R95), the forced switch-off (R94), raises (R99 to R101), loss of
voice (R102). -/

namespace Sys2Proof.Machine

def State.withPs (s : State) (p : Sequencer) : State := { s with ps := p }

/-! ## The own claim (R82) -/

/-- The amount at FULL: the working amount (BLADE), base plus lane cost times lanes in use (UPLINK), the fan claim
amount (FAN); never below 1. -/
def State.fullAmount (s : State) : Nat :=
  match s.role with
  | some .blade => s.ps.working
  | some .uplink => max 1 (s.lc.keys.baseAmount + s.lc.keys.laneCost * lanesInUse s.lm.lanes)
  | some .fan | some .power | none => s.lc.keys.fanClaim

/-- The amount at FLOOR: the floor amount (BLADE) or the base amount (UPLINK), or 1 when that is 0. -/
def State.floorAmount (s : State) : Nat :=
  match s.role with
  | some .blade => max 1 s.lc.keys.floorAmount
  | some .uplink => max 1 s.lc.keys.baseAmount
  | some .fan | some .power | none => s.lc.keys.fanClaim

/-- The floor field of the claim. -/
def State.floorField (s : State) : Nat :=
  match s.role with
  | some .blade => s.lc.keys.floorAmount
  | some .uplink => s.lc.keys.baseAmount
  | some .fan | some .power | none => s.lc.keys.fanClaim

/-- The amount at the present level. -/
def State.levelAmount (s : State) : Nat :=
  match s.ps.level with
  | .full => s.fullAmount
  | .floor => s.floorAmount

/-- The claim PS writes with a given amount; its level field is the sequencer's level. -/
def State.claimWith (s : State) (amount : Nat) : Claim :=
  { slot := s.ownSlot
    cls := if s.isRole .fan then .fan else .ranked
    priority := if s.isRole .fan then 0 else s.lc.keys.priority
    amount := amount
    floor := s.floorField
    level := s.ps.level
    admitted := false }

/-- The own claim already reads so. -/
def State.claimReads (s : State) (c : Claim) : Bool :=
  match s.ownClaim with
  | some old => old.same c
  | none => false

/-- PS writes the own claim (R64, R82): a write that creates or changes it is followed by a recompute and posts CLAIM in
RETRY mode. -/
def writeClaim (amount : Nat) (s : State) : State :=
  if s.claimReads (s.claimWith amount) then s else post .claim .retry (setClaim (s.claimWith amount) s)

/-- PS withdraws the own claim, if there is one, and posts RELEASE in RETRY mode (R82). -/
def withdraw (s : State) : State :=
  match s.ownClaim with
  | some _ => post .release .retry (delClaim s.ownSlot s)
  | none => s

/-! ## Conditions -/

/-- A thermal critical condition is present (R128). -/
def State.thermalCritical (s : State) : Bool := s.sm.t.list.any (·.critical)

/-- Some T channel holds a shutdown condition (R90). -/
def State.shutdownHeld (s : State) : Bool := s.sm.t.list.any (·.shutdown)

/-- The ejector removal is under way (R175). -/
def State.ejecting (s : State) : Bool := s.lc.phase == .grace || s.lc.phase == .poweringDown

/-- Min-off has elapsed since the last fall of PWR_EN; it counts as elapsed when PWR_EN has not risen since START
(R89). -/
def State.minOffElapsed (s : State) : Bool :=
  match s.ps.roseAt, s.ps.fellAt with
  | some _, some t => decide (t + msTicks s.lc.keys.minOff ≤ s.now)
  | _, _ => true

/-- Min-on has elapsed since the last rise of PWR_EN (R88). -/
def State.minOnElapsed (s : State) : Bool :=
  match s.ps.roseAt with
  | some t => decide (t + msTicks s.lc.keys.minOn ≤ s.now)
  | none => true

/-! ## Small steps -/

/-- PWR_EN falls and the moment is recorded (it was high). -/
def falls (s : State) : State := s.withPs { s.ps with fellAt := some s.now }

/-- A raise of PS's own ends; its hold-off stops. -/
def stopRaise (s : State) : State :=
  s.withPs { s.ps with raise := if s.ps.raise = .lanes then .lanes else .noRaise, raiseHold := .stopped 0 }

/-- The shed holdoff starts or restarts from its full length with a cause (R98). -/
def restartShedHold (c : ShedCause) (s : State) : State :=
  s.withPs { s.ps with shedHold := s.afterRounds s.lc.keys.shedHoldoff, shedCause := c }

/-- The claim hold-off starts again (R84, R85). -/
def restartHoldOff (s : State) : State := s.withPs { s.ps with holdOff := s.afterRounds s.lc.keys.holdOff }

/-! ## CLAIMING, COOLDOWN, FAULT -/

/-- Entry to CLAIMING (R84): the level is the desired one, but FLOOR while the shed holdoff runs or a thermal critical
condition is present; the claim is written at it and the hold-off starts. An uplink holds no lanes then, so its amount is
its base at either level. -/
def enterClaiming (s : State) : State :=
  let level := if s.ps.shedHold.isRunning || s.thermalCritical then Level.floor else s.ps.desired
  let s1 := s.withPs { s.ps with power := .claiming, level := level }
  (restartHoldOff (writeClaim s1.levelAmount s1)).latchPower .request

/-- The end of COOLDOWN (R89). -/
def endCooldown (s : State) : State :=
  if s.ps.pendingOn && !s.ro.selfStale then enterClaiming (s.withPs { s.ps with pendingOn := false })
  else (s.withPs { s.ps with power := .off }).latchPower .minOff

/-- Entry to COOLDOWN (R89). A removal under way clears pending-on (R175). Where PWR_EN falls in the same event min-off
starts there, and a min-off of 0 ms ends in an event of its own (R83; minOffAtOnce). -/
def enterCooldown (reason : OffReason) (s : State) : State :=
  s.withPs { s.ps with
    power := .cooldown
    reason := reason
    pendingOn := s.ps.pendingOn && !s.ejecting }

/-- The fault path (R86, R90, R97): power leaves ON, PWR_EN falls if it was high, every raise and timer of the switching
ends, a present claim is withdrawn, and the state becomes FAULT. LM is told from ENABLING too, after a power-good window
that ran out (log entry 41). -/
def faultPath (reason : OffReason) (cause : PowerCause) (s : State) : State :=
  let s1 := if s.ps.power.energised then falls (leavingOn .noPower s) else s
  let s2 := stopRaise s1
  let s3 := withdraw (s2.withPs { s2.ps with holdOff := .stopped 0, pgWindow := .stopped 0 })
  (s3.withPs { s3.ps with power := .fault, reason := reason, pendingOn := false }).latchPower cause

/-- Min-on has elapsed in STOPPING (R88). -/
def endStopping (s : State) : State :=
  let s1 := (withdraw (falls s)).latchPower .minOn
  enterCooldown s1.ps.reason s1

/-- POWER_OFF in ENABLING or ON (R87): lanes released, any raise ended, the window stopped, the claim at what the level
gives without lanes, the state STOPPING; min-on may already have elapsed (R88). -/
def powerOffPath (s : State) : State :=
  let s1 := stopRaise (leavingOn .stopping s)
  let s2 := writeClaim s1.levelAmount s1
  let s3 := (s2.withPs { s2.ps with power := .stopping, reason := .request, pgWindow := .stopped 0 }).latchPower .request
  if s3.minOnElapsed then endStopping s3 else s3

/-! ## Giving way -/

/-- The forced switch-off for budget, pulse or thermal reasons (R94). -/
def forcedOff (c : ShedCause) (s : State) : State :=
  let s1 := falls (stopRaise (leavingOn .noPower s))
  let s2 := withdraw (s1.withPs { s1.ps with pgWindow := .stopped 0 })
  let s3 := if s2.ps.shedHold.isRunning then s2 else restartShedHold c s2
  enterCooldown .shed ((s3.latchPower .shed).latchShed c)

/-- STOPPING loses its admission or is shed (R93, R95): PWR_EN falls at once. -/
def stoppingFall (c : ShedCause) (s : State) : State :=
  enterCooldown .shed (((withdraw (falls s)).latchPower .shed).latchShed c)

/-- The drop from FULL to FLOOR with a cause (R93, R95, R96): lanes given up, the claim at the FLOOR amount, the shed
holdoff started; if the floor claim is not admitted, the module goes off in the same event. -/
def dropToFloor (c : ShedCause) (s : State) : State :=
  let s1 := ownShed (stopRaise (s.withPs { s.ps with level := .floor }))
  let s2 := restartShedHold c (writeClaim s1.floorAmount s1)
  let s3 := (s2.latchShed c).latchPower .shed
  if s3.ownMark then s3
  else if s3.ps.power = .stopping then stoppingFall c s3
  else forcedOff c s3

/-- Losing admission with no raise in flight (R93). -/
def lossAtRest (s : State) : State :=
  match s.ps.power, s.ps.level with
  | .enabling, .full | .on, .full => dropToFloor .budget s
  | .enabling, .floor | .on, .floor => forcedOff .budget s
  | .stopping, _ => stoppingFall .budget s
  | .off, _ | .claiming, _ | .cooldown, _ | .fault, _ => s

/-! ## Raises (R99 to R101) -/

/-- A LEVEL raise ends without success (R100, R101): the claim goes to the FLOOR amount, the shed holdoff restarts, and
when even the floor is not admitted the module goes off. -/
def endLevelRaise (holdCause offCause : ShedCause) (denied : Bool) (s : State) : State :=
  let s1 := stopRaise s
  let s2 := restartShedHold holdCause (writeClaim s1.floorAmount s1)
  let s3 := if denied then s2.latchRaiseDenied false else s2
  if s3.ownMark then s3 else forcedOff offCause s3

/-- An AMOUNT raise fails (R100, R101): the old amount is restored; if that is not admitted, the loss at FULL. -/
def failAmountRaise (s : State) : State :=
  let s1 := stopRaise s
  let s2 := (writeClaim s1.fullAmount s1).latchRaiseDenied true
  if s2.ownMark then s2 else dropToFloor .budget s2

/-- The conditions of a LEVEL raise (R99). -/
def State.mayRaise (s : State) : Bool :=
  s.consumer && s.inLife .active && s.ps.power == .on && s.ps.level == .floor && s.ps.desired == .full &&
    !s.ps.shedHold.isRunning && !s.thermalCritical && s.ps.raise == .noRaise

/-- PS looks at the raise conditions and starts a LEVEL raise (R99); one not admitted at its write fails at once
(R100). -/
def lookRaise (s : State) : State :=
  if s.mayRaise then
    let s1 := writeClaim s.fullAmount
      (s.withPs { s.ps with raise := .level, raiseHold := s.afterRounds s.lc.keys.holdOff })
    if s1.ownMark then s1 else endLevelRaise s1.ps.shedCause .budget true s1
  else s

/-- A shed pulse or a thermal critical entry at a consumer in ACTIVE (R95, R96, R101). -/
def shedAct (c : ShedCause) (s : State) : State :=
  let s1 := s.latchShed c
  match s1.ps.power, s1.ps.level with
  | .enabling, .full | .on, .full | .stopping, .full => dropToFloor c s1
  | .enabling, .floor | .on, .floor | .stopping, .floor =>
    if s1.ps.raise = .level then endLevelRaise c c false s1 else restartShedHold c s1
  | .claiming, .full =>
    let s2 := s1.withPs { s1.ps with level := .floor }
    (restartShedHold c (restartHoldOff (writeClaim s2.floorAmount s2))).latchPower .shed
  | .claiming, .floor => restartShedHold c s1
  | .off, _ | .cooldown, _ | .fault, _ => s1

/-! ## Loss of voice (R102) -/

/-- SELF-STALE at a consumer. -/
def stalePath (s : State) : State :=
  match s.ps.power with
  | .enabling | .on | .stopping =>
    let s1 := falls (stopRaise (leavingOn .noPower s))
    let s2 := withdraw (s1.withPs { s1.ps with pgWindow := .stopped 0, pendingOn := true })
    enterCooldown .stale (s2.latchPower .stale)
  | .claiming =>
    let s1 := withdraw (s.withPs { s.ps with holdOff := .stopped 0 })
    (s1.withPs { s1.ps with power := .off, reason := .stale, pendingOn := true }).latchPower .stale
  | .off | .cooldown | .fault => s

/-- SELF-STALE has cleared: a consumer in OFF with pending-on set claims again. -/
def staleCleared (s : State) : State :=
  if s.consumer && s.inLife .active && s.ps.power == .off && s.ps.pendingOn then
    enterClaiming (s.withPs { s.ps with pendingOn := false })
  else s

end Sys2Proof.Machine
end

