-- ==== Sys2Proof/Machine/Arbiter.lean ====
section
/-! DEFINITION. Admission notices at the sequencer (R74, R85, R93, R101), the entry to ENABLING and ON (R85, R86), and
the uplink's arbiter with its reservation (R153 to R163). -/

namespace Sys2Proof.Machine

/-! ## The claim and the lanes (R162) -/

/-- LM asks PS to rewrite the claim with the lanes in use, while a claim is present. -/
def rewriteLanes (s : State) : State :=
  if s.isRole .uplink && s.ownClaim.isSome then writeClaim s.levelAmount s else s

/-! ## The reservation (R153, R155) -/

/-- The head can be served: no reservation in flight, ON at FULL, the shed holdoff stopped, enough FREE lanes. -/
def State.servable (s : State) (r : Request) : Bool :=
  s.isRole .uplink && s.lm.reservation.isNone && s.ps.power == .on && s.ps.level == .full &&
    !s.ps.shedHold.isRunning && decide (r.count ≤ (freeLanes s.lm.lanes).length)

/-- Lanes of a list become RESERVED for a slot. -/
def reserveLanes (slot : Nat) : List Nat → SlotMap LaneUse → SlotMap LaneUse
  | [], m => m
  | k :: ks, m => reserveLanes slot ks (slotSet m k (.reserved slot))

/-- Serve the head: it leaves the queue and becomes the reservation, the lowest FREE lanes become RESERVED, the claim is
written with them as a raise that LM owns, and the raise hold-off starts. -/
def serve (r : Request) (rest : List Request) (s : State) : State :=
  let s1 :=
    { s with
      lm := { s.lm with
        queue := rest
        lanes := reserveLanes r.slot ((freeLanes s.lm.lanes).take r.count) s.lm.lanes
        reservation := some { slot := r.slot, hold := s.afterRounds s.lc.keys.holdOff } }
      ps := { s.ps with raise := .lanes } }
  writeClaim s1.fullAmount s1

/-- The reservation fails for want of power (R155, R160): its lanes become FREE, the claim is lowered, the slot is
answered DENIED, NO_POWER; when even the lower claim is not admitted, the loss at FULL of R93 follows. -/
def reservationFails (s : State) : State :=
  match s.lm.reservation with
  | none => s
  | some r =>
    let s1 := answer r.slot (deniedBy .noPower) (rewriteLanes (endReservation s))
    if s1.ownMark then s1 else lossAtRest s1

/-- The arbiter looks at the head, and again after a reservation that failed at its write. Each turn takes a request
out of the queue. -/
def arbiterLoop : Nat → State → State
  | 0, s => s
  | n + 1, s =>
    match s.lm.queue with
    | [] => s
    | r :: rest =>
      if s.servable r then
        let s1 := serve r rest s
        if s1.ownMark then s1 else arbiterLoop n (reservationFails s1)
      else s

/-- The arbiter looks at the head of the queue (R153). -/
def arbiter (s : State) : State := arbiterLoop (s.lm.queue.length + 1) s

/-- The arbiter's look at a round (R154): a head that cannot be served and has waited to the limit is denied. After a head
whose reservation failed at its write the next is still judged by its age (log entry 54). -/
def roundLoop : Nat → State → State
  | 0, s => s
  | n + 1, s =>
    match s.lm.queue with
    | [] => s
    | r :: rest =>
      if s.servable r then
        let s1 := serve r rest s
        if s1.ownMark then s1 else roundLoop n (reservationFails s1)
      else if s.lc.keys.queueWait ≤ r.age then
        roundLoop n (answer r.slot (deniedBy .noLanes) { s with lm := { s.lm with queue := rest } })
      else s

/-- A round at the request queue (R151, R154): ages rise, then the arbiter looks. -/
def arbiterRound (s : State) : State :=
  if s.isRole .uplink then
    let s1 := { s with lm := { s.lm with queue := s.lm.queue.map (fun r => { r with age := satSucc 255 r.age }) } }
    roundLoop (s1.lm.queue.length + 1) s1
  else s

/-- Lanes RESERVED for a slot become GRANTED to it. -/
def LaneUse.granting : LaneUse → LaneUse
  | .reserved t => .granted t
  | .granted t => .granted t
  | .draining t d => .draining t d
  | .faulted => .faulted

/-- The end of the reservation's raise hold-off (R155). -/
def reservationEnds (s : State) : State :=
  match s.lm.reservation with
  | none => s
  | some r =>
    if s.ownMark then
      let s1 := s.withLanes (slotMap (fun _ u => u.granting) s.lm.lanes)
      let s2 := { s1 with lm := { s1.lm with reservation := none }, ps := { s1.ps with raise := .noRaise } }
      arbiter (answer r.slot grantedAnswer s2)
    else arbiter (reservationFails s)

/-! ## ENABLING and ON (R85, R86) -/

/-- ENABLING becomes ON: the window stops; a module at FLOOR looks at a raise (R99), an uplink at FULL at its queue
(R153). -/
def enterOn (s : State) : State :=
  let s1 := (s.withPs { s.ps with power := .on, pgWindow := .stopped 0 }).latchPower .powerGood
  arbiter (lookRaise s1)

/-- The claim is admitted and the hold-off has ended: PWR_EN rises, the power-good window starts (R85), and a POWER_GOOD
already high takes the module to ON at once (R86). -/
def enterEnabling (s : State) : State :=
  let s1 := s.withPs { s.ps with
    power := .enabling
    holdOff := .stopped 0
    roseAt := some s.now
    pgWindow := s.afterMs s.lc.keys.pgWindow }
  let s2 := s1.latchPower .admitted
  if s2.pins.powerGood then enterOn s2 else s2

/-! ## Notices (R74) -/

/-- The own claim has lost admission: by the raise in flight (R100, R101), else R93. -/
def psLoss (s : State) : State :=
  match s.ps.raise with
  | .level => endLevelRaise .budget .budget true s
  | .amount _ => failAmountRaise s
  | .lanes => arbiter (reservationFails s)
  | .noRaise => lossAtRest s

/-- The own claim has become admitted: acted on in CLAIMING with the hold-off ended (R85). -/
def psAdmitted (s : State) : State :=
  if s.ps.power = .claiming ∧ s.ps.holdOff.isRunning = false then enterEnabling s else s

/-- Something other than PS's own write has recomputed the budget: a change of the own claim's mark is noticed to PS.
FAN role takes notices without acting on them (R105). -/
def noticed (f : State → State) (s : State) : State :=
  let t := f s
  if t.consumer then
    if s.ownMark && !t.ownMark then psLoss t
    else if !s.ownMark && t.ownMark then psAdmitted t
    else t
  else t

/-! ## The uplink's lanes and the outside -/

/-- A reservation of a slot ends, without an answer of its own. -/
def cancelReservation (slot : Nat) (s : State) : State := if s.isReserving slot then endReservation s else s

/-- A GRANTED lane of a slot enters DRAINING with a drain of its own; other lanes stay (R158). -/
def LaneUse.drained (slot : Nat) (drain : Timer) : LaneUse → LaneUse
  | .granted t => if t = slot then .draining t drain else .granted t
  | .reserved t => .reserved t
  | .draining t d => .draining t d
  | .faulted => .faulted

/-- Every lane GRANTED to a slot goes to DRAINING, or straight on to FREE when the drain is of 0 rounds (R158). -/
def drainLanes (slot : Nat) (s : State) : State :=
  if s.lc.keys.drain = 0 then s.freeWhere (LaneUse.grantedTo slot)
  else s.withLanes (slotMap (fun _ u => u.drained slot (s.afterRounds s.lc.keys.drain)) s.lm.lanes)

/-- LANE_RELEASE from a holder (R156, R158). -/
def takeRelease (slot : Nat) (s : State) : State :=
  let s1 := drainLanes slot ((cancelReservation slot s).unqueue slot)
  arbiter (rewriteLanes (answer slot releasedAnswer s1))

/-- The count of a queued request is replaced; its place and age stay (R152). -/
def recount (slot count : Nat) (q : List Request) : List Request :=
  q.map (fun r => if r.slot = slot then { r with count := count } else r)

/-- LANE_REQUEST from a slot, its requester's role and reported power state as the roster holds them, judged row by row
(R152). -/
def takeRequest (slot rawCount : Nat) (e : RosterEntry) (s : State) : State :=
  let count := clampNat 1 Config.lanesPerSlot rawCount
  if e.role ≠ .blade then s
  else if (s.holder slot).answer.isSome then s
  else if s.isReserving slot then s
  else if s.ps.power = .stopping then answer slot (deniedBy .stopping) s
  else if s.ps.power ≠ .on ∨ s.ps.level = .floor ∨ s.ps.shedHold.isRunning = true then answer slot (deniedBy .noPower) s
  else if e.power ≠ some .on then arbiter (answer slot (deniedBy .notPowered) (s.unqueue slot))
  else if Config.lanesPerSlot < lanesOf s.lm.lanes slot + count then
    arbiter (answer slot (deniedBy .limit) (s.unqueue slot))
  else if s.isQueued slot then arbiter { s with lm := { s.lm with queue := recount slot count s.lm.queue } }
  else if Config.requestQueue ≤ s.lm.queue.length then answer slot (deniedBy .queueFull) s
  else arbiter { s with lm := { s.lm with queue := s.lm.queue ++ [{ slot := slot, count := count, age := 0 }] } }

/-- A removal report at an uplink (R163): lanes, queued request, reservation and holder record of the slot are gone. -/
def lanesRemoved (slot : Nat) (s : State) : State :=
  let s1 := ((cancelReservation slot s).freeWhere (fun u => u.slot? == some slot)).unqueue slot
  arbiter (rewriteLanes (s1.putHolder slot {}))

/-- A slot's reported power state has left ON (R156, R159). A slot without GRANTED lanes is answered by its request, else
by its reservation, and not at all for DRAINING lanes alone (log entry 57). -/
def lanesUnpowered (slot : Nat) (s : State) : State :=
  let held := s.holds slot
  let queued := s.isQueued slot
  let reserving := s.isReserving slot
  let s1 := ((cancelReservation slot s).freeWhere (fun u => u.slot? == some slot)).unqueue slot
  let s2 :=
    if held then answer slot (revokedBy .notPowered) s1
    else if queued then answer slot (deniedBy .notPowered) s1
    else if reserving then answer slot releasedAnswer s1
    else s1
  arbiter (rewriteLanes s2)

/-- Fault on for a lane (R157). -/
def laneFaultOn (lane : Nat) (s : State) : State :=
  match slotGet s.lm.lanes lane with
  | none => s.withLanes (slotSet s.lm.lanes lane .faulted)
  | some (.reserved t) =>
    let s1 := endReservation s
    arbiter (answer t (deniedBy .noLanes) (rewriteLanes (s1.withLanes (slotSet s1.lm.lanes lane .faulted))))
  | some (.granted t) =>
    let s1 := (cancelReservation t s).unqueue t
    arbiter (answer t (revokedBy .laneFault) (rewriteLanes (s1.withLanes (slotSet s1.lm.lanes lane .faulted))))
  | some (.draining _ _) => arbiter (rewriteLanes (s.withLanes (slotSet s.lm.lanes lane .faulted)))
  | some .faulted => s

/-- Fault off for a lane (R157). -/
def laneFaultOff (lane : Nat) (s : State) : State :=
  match slotGet s.lm.lanes lane with
  | some .faulted => arbiter (s.withLanes (slotDel s.lm.lanes lane))
  | some (.reserved _) | some (.granted _) | some (.draining _ _) | none => s

/-- A DRAINING lane whose drain ends at a moment (R158): lanes released together end together. -/
def LaneUse.drainsAt (d : Timer) : LaneUse → Bool
  | .draining _ t => t == d
  | .reserved _ | .granted _ | .faulted => false

end Sys2Proof.Machine
end

