-- ==== Sys2Proof/Machine/Supply.lean ====
section
/-! DEFINITION. The supply controller of POWER role (06_supply_stations.md): evaluation of the supply state (R109 to
R111), the shed pulse (R37) and the overload watch (R116, R117), the drain (R113, R114). -/

namespace Sys2Proof.Machine

def State.withSup (s : State) (x : Supply) : State := { s with sup := x }

/-- The supply state as an evaluation finds it, first case that holds (R109). A removal is under way in every phase but
NONE, a surprise removal's included (R180). A T0 reading of INVALID counts as out, and T0 reads INVALID before its first
conversion (R120). -/
def State.supplyNow (s : State) : SupplyState :=
  if s.sup.localOff || s.lc.phase != .noRemoval then .offline
  else if !s.pins.powerGood || (s.sm.v.at 2).out then .failed
  else if (s.sm.t.at 0).out || (s.sm.t.at 0).reading == .invalid then .warm
  else .good

/-- The capacity a supply reports in each state (R110). -/
def capacityIn (rating : Nat) : SupplyState → Nat
  | .good => rating
  | .warm => rating * 75 / 100
  | .offline | .failed => 0

/-- The POWER cause that names a supply state (R111). -/
def SupplyState.cause : SupplyState → PowerCause
  | .offline => .offline
  | .good => .good
  | .warm => .warm
  | .failed => .failed

/-- Evaluate the supply state (R109 to R111): a change of state or capacity recomputes the budget, posts CAPACITY in
RETRY mode and latches POWER; a capacity of 0 sets the overload count to 0 (R116). -/
def evaluateSupply (s : State) : State :=
  let st := s.supplyNow
  let cap := capacityIn s.lc.keys.rating st
  let s1 := s.withSup { s.sup with
    state := st
    reported := cap
    overload := if cap = 0 then 0 else s.sup.overload }
  if st = s.sup.state ∧ cap = s.sup.reported then s1
  else (post .capacity .retry (recompute s1)).latchPower st.cause

/-- BI carries out a shed pulse in ACTIVE: the line is driven dominant for 24 bit times at once, and an own frame in
progress stops and will be classed a shed disturbance (R37). -/
def sendPulse (s : State) : State :=
  if s.inLife .active then
    { s with bi := { s.bi with
        idle := false
        pulse := s.after (Config.pulseBits * s.bitTicks)
        tx := s.bi.tx.map (fun t => { t with stopped := some (t.stopped.getD .mismatch), shedSeen := true }) } }
  else s

/-- PS asks for a shed pulse, latches OVERLOAD, starts the guard and sets the count to 0 (R116, R117). -/
def askPulse (s : State) : State :=
  let s1 := (sendPulse s).latch .overload
  s1.withSup { s1.sup with guard := s1.afterRounds s1.lc.keys.shedHoldoff, overload := 0 }

/-- The overload watch at a V3 conversion (R116): the load is stored and judged against the reported capacity. -/
def watchLoad (load : Nat) (s : State) : State :=
  let count :=
    if s.sup.reported = 0 then 0
    else if s.sup.reported < load then satSucc Config.overloadLimit s.sup.overload
    else 0
  let s1 := s.withSup { s.sup with load := load, overload := count }
  if count = Config.overloadLimit ∧ s1.sup.guard.isRunning = false then askPulse s1 else s1

/-- The end of the overload guard (R117). -/
def endGuard (s : State) : State :=
  let s1 := s.withSup { s.sup with guard := .stopped 0 }
  if s1.sup.overload = Config.overloadLimit then askPulse s1 else s1

/-- The drain starts (R114). -/
def startDrain (s : State) : State := s.withSup { s.sup with drain := s.afterRounds Config.drainRounds }

/-- A RESTART abandons the drain; PWR_EN stays high (R114). -/
def abandonDrain (s : State) : State := s.withSup { s.sup with drain := .stopped 0 }

/-- The drain ends: PWR_EN falls (R114). -/
def endDrain (s : State) : State :=
  (s.withSup { s.sup with drain := .stopped 0, output := false }).latchPower .drained

/-- POWER_OFF of a supply (R113): the local-off mark is set; with the output high and no drain running, the supply goes
OFFLINE and the drain starts. CAPACITY is posted where state or capacity changes, so not from OFFLINE (R111; log entry
43). -/
def supplyOff (s : State) : State :=
  let was := s.sup.state
  let s1 := s.withSup { s.sup with localOff := true }
  let s2 := if s.sup.drain.isRunning then s1 else evaluateSupply s1
  let s3 := if s.sup.output && !s.sup.drain.isRunning then startDrain s2 else s2
  if was = .offline then s3.latchPower .request else s3

/-- POWER_ON of a supply (R115). One that finds PWR_EN high and the mark clear changes nothing and latches no POWER event
(log entry 44). -/
def supplyOn (s : State) : State :=
  if s.sup.output && !s.sup.localOff then s
  else (s.withSup { s.sup with localOff := false, drain := .stopped 0, output := true }).latchPower .request

end Sys2Proof.Machine
end

