-- ==== Sys2Proof/Machine/Fan.lean ====
section
/-! DEFINITION. The fan controller of FAN role (08_fan_control.md): the thermal view, the duty and the upward step, the
rotors, sustained full. -/

namespace Sys2Proof.Machine

def State.withFc (s : State) (x : FanControl) : State := { s with fc := x }

/-! ## Duty (R137, R138, R140, R141) -/

/-- The own entry of the view: present when the key is yes and there is an own demand (R137). It is the own demand as SM
last computed it, in CLASH too, where the entries of other slots stand as at entry (log entry 46). -/
def State.ownViewDemand (s : State) : Option Nat := if s.lc.keys.ownDemandCounts then s.sm.ownDemand else none

/-- An entry is fresh while its age is below 4 (R138). -/
def ViewEntry.fresh (e : ViewEntry) : Bool := decide (e.age < Config.freshBeats)

/-- The demands that count: fresh entries and the own entry. -/
def State.freshDemands (s : State) : List Nat :=
  ((s.fc.view.map (·.2)).filter ViewEntry.fresh).map (·.demand) ++ s.ownViewDemand.toList

/-- The largest of some numbers. -/
def maxOf (xs : List Nat) : Nat := xs.foldl max 0

/-- The target: the largest fresh demand, 100 when there is none (R140). -/
def State.fanTarget (s : State) : Nat :=
  match s.freshDemands with
  | [] => 100
  | x :: xs => maxOf (x :: xs)

/-- Fitted rotors in FAILED. -/
def State.fittedFailed (s : State) : Nat :=
  ((s.fc.rotors.list.take s.lc.keys.rotorsFitted).filter (·.failed)).length

/-- The compensated duty (R140). -/
def State.fanComp (s : State) : Nat := min 100 (s.fanTarget + 10 * s.fittedFailed)

/-- The applied duty after a beat: up at once, down by at most 5 (R140). -/
def slew (applied comp : Nat) : Nat := if applied ≤ comp then comp else max comp (applied - 5)

/-- The upward step between beats, taken by a FAN station in ACTIVE (R141). -/
def upwardStep (s : State) : State :=
  if s.isRole .fan && s.inLife .active then
    s.withFc { s.fc with
      lastTarget := some s.fanTarget
      lastComp := some s.fanComp
      applied := max s.fc.applied s.fanComp }
  else s

/-- Step 3 of a beat (R140). -/
def beatDuty (s : State) : State :=
  s.withFc { s.fc with
    lastTarget := some s.fanTarget
    lastComp := some s.fanComp
    applied := slew s.fc.applied s.fanComp }

/-- Step 1 of a beat: every view entry ages (R138). -/
def ageView (s : State) : State :=
  s.withFc { s.fc with view := slotMap (fun _ e => { e with age := satSucc 255 e.age }) s.fc.view }

/-! ## Rotors (R143 to R145) -/

/-- The elapsed time of a rotor in ticks: since its last edge, or since the settle time ended. -/
def State.rotorElapsed (s : State) (r : Rotor) : Nat := s.now - r.lastEdge.getD s.fc.settledAt

/-- How a rotor is judged at a beat: none is a good beat (R144). -/
def State.judgeRotor (s : State) (r : Rotor) : Option BadCause :=
  let elapsed := s.rotorElapsed r
  let period := (r.period.getD 0) * Config.ticksPerUs
  if msTicks Config.stallMs ≤ elapsed then some .stall
  else if s.lc.keys.tachLimit * Config.ticksPerUs < max period elapsed then some .slow
  else none

/-- One judgement moves the runs and, at three in a row, the fault state (R145). -/
def Rotor.judged (r : Rotor) (bad : Option BadCause) : Rotor :=
  match bad with
  | some c =>
    { r with
      badRun := satSucc 3 r.badRun
      goodRun := 0
      lastBad := c
      failed := r.failed || decide (3 ≤ r.badRun + 1) }
  | none =>
    { r with
      goodRun := satSucc 3 r.goodRun
      badRun := 0
      failed := r.failed && !decide (3 ≤ r.goodRun + 1) }

/-- A fan part that changed reaches the own budget unit, goes out in FANSTAT and latches FAN (R145, R146). -/
def fanChanged (sustained : Bool) (s : State) : State :=
  (post .fanstat .retry (recompute s)).latchFan sustained

/-- Judge one fitted rotor. -/
def judgeOne (k : Nat) (s : State) : State :=
  let r := s.fc.rotors.at k
  let r' := r.judged (s.judgeRotor r)
  let s1 := s.withFc { s.fc with rotors := s.fc.rotors.put k r' }
  if r.failed = r'.failed then s1 else fanChanged false s1

/-- Step 2 of a beat: each fitted rotor in turn, rotor 0 first, each change of a fault state with its own recompute before
the next rotor is judged (log entry 69). -/
def judgeRotors : List Nat → State → State
  | [], s => s
  | k :: ks, s => judgeRotors ks (if k < s.lc.keys.rotorsFitted then judgeOne k s else s)

/-- A falling edge at a fitted rotor's input (R143): the period in whole µs, at most 1,000,000. -/
def tachEdge (k : Nat) (s : State) : State :=
  let r := s.fc.rotors.at k
  let period :=
    match r.lastEdge with
    | some t => some (min 1000000 ((s.now - t) / Config.ticksPerUs))
    | none => r.period
  s.withFc { s.fc with rotors := s.fc.rotors.put k { r with lastEdge := some s.now, period := period } }

/-! ## Sustained full (R146) -/

/-- Step 4 of a beat, from the target and applied duty of step 3. -/
def judgeSustained (s : State) : State :=
  let target := s.fc.lastTarget.getD 0
  let count := if s.fc.applied = 100 ∧ target = 100 then satSucc 65535 s.fc.sustained else 0
  let flag :=
    if s.fc.sustainedFlag then !decide (target ≤ 90) else decide (s.lc.keys.sustainLimit ≤ count)
  let s1 := s.withFc { s.fc with sustained := count, sustainedFlag := flag }
  if flag = s.fc.sustainedFlag then s1 else fanChanged true s1

/-- One beat at FC (R139): in ACTIVE all four steps, the wait of a surprise removal included (log entry 29); in REMOVABLE
the duty stays at 100 and the sustained count and flag are held (R142). -/
def fanBeat (s : State) : State :=
  let s1 := judgeRotors [0, 1, 2, 3] (ageView s)
  if s1.inLife .active then judgeSustained (beatDuty s1) else s1

/-! ## The view and the outside -/

/-- THERMAL taken by FC (R136). -/
def takeThermal (slot : Nat) (demand : Nat) (hottest : Reading) (s : State) : State :=
  upwardStep (s.withFc { s.fc with view := slotSet s.fc.view slot { demand := demand, hottest := hottest, age := 0 } })

/-- A removal report at FC (R138). -/
def viewRemoved (slot : Nat) (s : State) : State :=
  match slotGet s.fc.view slot with
  | none => s
  | some _ => upwardStep (s.withFc { s.fc with view := slotDel s.fc.view slot })

end Sys2Proof.Machine
end

