-- ==== Sys2Proof/Machine/Sensor.lean ====
section
/-! DEFINITION. The sensor monitor (07_sensor_monitor_and_thermal_demand.md): conversions, limits, statuses, conditions,
the channel demand, and the reports to PS (R130). -/

namespace Sys2Proof.Machine

def State.withSm (s : State) (x : SensorMonitor) : State := { s with sm := x }

/-! ## Readings (R122) -/

/-- What a T conversion yields. -/
def tReading (diode : Option Int) : Reading :=
  match diode with
  | none => .invalid
  | some c => .deg (clampInt (-40) 150 c)

/-- What a V conversion yields. -/
def vReading (volts : Int) : Nat := (clampInt 0 1500 volts).toNat

/-! ## Judgement of a T channel (R125, R128, R129) -/

def TChannel.gap (c : TChannel) : Int := c.overLimit - c.hysteresis

/-- The real-time status after a conversion (R125). -/
def TChannel.outAfter (c : TChannel) : Reading → Bool
  | .invalid => true
  | .deg t => if c.overLimit < t then true else if t < c.hysteresis then false else c.out

/-- The critical condition after a conversion (R128). -/
def TChannel.criticalAfter (c : TChannel) : Reading → Bool
  | .invalid => true
  | .deg t => if c.critLimit < t then true else if t < c.critLimit - c.gap then false else c.critical

/-- The shutdown condition after a conversion (R129). -/
def TChannel.shutdownAfter (c : TChannel) : Reading → Bool
  | .invalid => c.shutdown
  | .deg t => if c.shutLimit < t then true else if t < c.shutLimit - c.gap then false else c.shutdown

/-- The channel demand of a reading, by target and span (R131). -/
def channelDemand (target : Option Int) (span : Nat) (r : Reading) : Option Nat :=
  match target with
  | none => none
  | some t =>
    match r with
    | .invalid => some 100
    | .deg c => if c ≤ t then some 20 else some (min 100 (20 + (80 * (c - t)).toNat / span))

/-- A T channel after a conversion. -/
def TChannel.judged (c : TChannel) (r : Reading) (demand : Option Nat) : TChannel :=
  { c with
    reading := r
    out := c.outAfter r
    latched := c.latched || (c.outAfter r && !c.out)
    critical := c.criticalAfter r
    shutdown := c.shutdownAfter r
    demand := demand }

/-- A V channel after a conversion (R126, R127). -/
def VChannel.judged (c : VChannel) (r : Nat) : VChannel :=
  let out := decide (c.high < r ∨ (r : Int) < c.low)
  { c with reading := r, out := out, latched := c.latched || (out && !c.out) }

/-! ## Own demand and hottest reading (R132) -/

/-- The channels that have a target. -/
def targeted (targets : Quad (Option Int)) (t : Quad TChannel) : List TChannel :=
  ((targets.list.zip t.list).filter (fun p => p.1.isSome)).map (·.2)

/-- The higher of two readings; INVALID is below every valid one. -/
def Reading.higher : Reading → Reading → Reading
  | .invalid, r => r
  | r, .invalid => r
  | .deg a, .deg b => .deg (max a b)

/-- The own demand and the hottest reading of the channels with a target. -/
def ownDemandOf (cs : List TChannel) : Option Nat × Option Reading :=
  match cs with
  | [] => (none, none)
  | c :: rest =>
    (some (maxOf ((c :: rest).map (fun x => x.demand.getD 0))),
     some ((c :: rest).foldl (fun a x => a.higher x.reading) .invalid))

/-- Compute the own demand and the hottest reading again. A change of the own demand at a FAN station in ACTIVE is
followed by the upward step when it changes the own entry of the view (R137). -/
def refreshDemand (s : State) : State :=
  let d := ownDemandOf (targeted s.lc.keys.demandTarget s.sm.t)
  let s1 := s.withSm { s.sm with ownDemand := d.1, hottest := d.2 }
  if s1.ownViewDemand = s.ownViewDemand then s1 else upwardStep s1

/-- Compute a channel's demand again from the reading it holds (R131). -/
def redemand (k : Nat) (s : State) : State :=
  let c := s.sm.t.at k
  let demand := channelDemand (s.lc.keys.demandTarget.at k) (s.lc.keys.demandSpan.at k) c.reading
  refreshDemand (s.withSm { s.sm with t := s.sm.t.put k { c with demand := demand } })

/-! ## Reports (R130) -/

/-- PS and SM take the reports of one T conversion: critical entry (R96), critical end (R99), shutdown entry (R97), in
this order where one conversion makes several (log entry 45). -/
def thermalReports (before after : TChannel) (hadCritical : Bool) (s : State) : State :=
  let s1 :=
    if !before.critical && after.critical && s.consumer && s.inLife .active then shedAct .thermal s else s
  let s2 := if hadCritical && !s1.thermalCritical then lookRaise s1 else s1
  if !before.shutdown && after.shutdown && s2.consumer && (s2.inLife .active || s2.inLife .removable) then
    faultPath .overtemp .overtemp s2
  else s2

/-- The end of a T conversion at SM (R121 to R132). -/
def convertT (k : Nat) (diode : Option Int) (s : State) : State :=
  let r := tReading diode
  let c := s.sm.t.at k
  let demand := channelDemand (s.lc.keys.demandTarget.at k) (s.lc.keys.demandSpan.at k) r
  let c' := c.judged r demand
  let had := s.thermalCritical
  let s1 := s.withSm { s.sm with t := s.sm.t.put k c' }
  let s2 := if !c.out && c'.out then s1.latch .sensor else s1
  thermalReports c c' had (refreshDemand s2)

/-- The end of a V conversion at SM (R121, R126, R127). -/
def convertV (k : Nat) (volts : Int) (s : State) : State :=
  let c := s.sm.v.at k
  let c' := c.judged (vReading volts)
  let s1 := s.withSm { s.sm with v := s.sm.v.put k c' }
  if !c.out && c'.out then s1.latch .sensor else s1

/-- The supply's part of a conversion, in POWER role in ACTIVE: the evaluation (R109), and at V3 the load (R116). -/
def supplyConversion (channel : Nat) (s : State) : State :=
  if s.isRole .power && s.inLife .active then
    let s1 := evaluateSupply s
    if channel = 7 then watchLoad (s1.sm.v.at 3).reading s1 else s1
  else s

/-- One conversion end: the channel in turn is converted, the next in order follows 8 ms later (R121). -/
def convert (diode : Option Int) (volts : Int) (s : State) : State :=
  let k := s.sm.next
  let s1 := s.withSm { s.sm with next := (k + 1) % 8, conversion := s.afterMs Config.conversionMs }
  let s2 := if k < 4 then convertT k diode s1 else convertV (k - 4) volts s1
  supplyConversion k s2

/-! ## Limits (R123) -/

/-- A T set is consistent. -/
def tLimitsFit (overLimit hysteresis critical shutdown : Int) : Bool :=
  decide (-40 ≤ hysteresis ∧ hysteresis < overLimit ∧ overLimit ≤ critical ∧ critical ≤ shutdown ∧ shutdown ≤ 150)

/-- A V set is consistent. -/
def vLimitsFit (high low : Int) : Bool := decide (0 ≤ low ∧ low ≤ high ∧ high ≤ 1500)

def setTLimits (k : Nat) (overLimit hysteresis critical shutdown : Int) (s : State) : State :=
  s.withSm { s.sm with t := s.sm.t.put k { s.sm.t.at k with
    overLimit := overLimit, hysteresis := hysteresis, critLimit := critical, shutLimit := shutdown } }

def setVLimits (k : Nat) (high low : Int) (s : State) : State :=
  s.withSm { s.sm with v := s.sm.v.put k { s.sm.v.at k with high := high, low := low } }

/-- Every latched status is cleared, by SENSE (R127). -/
def clearLatched (s : State) : State :=
  let c (x : TChannel) : TChannel := { x with latched := false }
  let d (x : VChannel) : VChannel := { x with latched := false }
  s.withSm { s.sm with
    t := ⟨c s.sm.t.x0, c s.sm.t.x1, c s.sm.t.x2, c s.sm.t.x3⟩
    v := ⟨d s.sm.v.x0, d s.sm.v.x1, d s.sm.v.x2, d s.sm.v.x3⟩ }

end Sys2Proof.Machine
end

