-- ==== Sys2Proof/Machine/LaneRecords.lean ====
section
/-! DEFINITION. The blade side of the lanes (09_uplink_lanes.md): requests, grants, late grants, releases and their lane
records (R164 to R169). -/

namespace Sys2Proof.Machine

/-- A free lane record is left. -/
def State.recordRoom (s : State) : Bool := decide (s.lb.length < Config.laneRecords)

/-- REQUEST_LANES taken: a record holds the pending count, LANE_REQUEST is posted, the reply window starts (R165). -/
def askLanes (uplink count : Nat) (s : State) : State :=
  let r := (slotGet s.lb uplink).getD {}
  postBlade .request uplink (s.putRecord uplink { r with
    pending := count
    release := false
    sent := false
    window := s.afterRounds s.lc.keys.replyWindow })

/-- RELEASE_LANES taken (R169). -/
def giveLanes (uplink : Nat) (s : State) : State :=
  match slotGet s.lb uplink with
  | some _ => releaseRecord uplink s
  | none => releaseRecord uplink (s.putRecord uplink {})

/-- A GRANTED that finds no count pending (R168): the lanes are given back. -/
def lateGrant (uplink : Nat) (s : State) : State :=
  let late (r : LaneRecord) : State :=
    postBlade .release uplink (s.putRecord uplink { r with held := 0, release := true, last := .late })
  let s1 :=
    match slotGet s.lb uplink with
    | some r => late r
    | none => if s.recordRoom then late {} else s
  s1.latchLane .late uplink

/-- The answer ends the pending request and gives the held set; a record with nothing left leaves use (R164). -/
def closeRequest (uplink : Nat) (r : LaneRecord) (a : Answer) (held : Half) (s : State) : State :=
  (s.keepRecord uplink { r with held := held, pending := 0, window := .stopped 0, last := .answer a }).latchLane
    (.answer a) uplink

/-- LANE_GRANT from an uplink, for the own slot (R167). -/
def takeGrant (uplink : Nat) (a : Answer) (held : Half) (s : State) : State :=
  match slotGet s.lb uplink with
  | none => if a.outcome = .granted then lateGrant uplink s else s
  | some r =>
    match a.outcome with
    | .granted => if 0 < r.pending then closeRequest uplink r a held s else lateGrant uplink s
    | .denied =>
      if 0 < r.pending then closeRequest uplink r a held s else s.keepRecord uplink { r with held := held }
    | .revoked => closeRequest uplink r a held s
    | .released => s.keepRecord uplink { r with held := held, last := .answer a }

/-- Post LANE_REQUEST again for every record with a pending count, lowest uplink first (R166; log entry 63). -/
def repostRequests : List Nat → State → State
  | [], s => s
  | u :: us, s =>
    match slotGet s.lb u with
    | some r => repostRequests us (if 0 < r.pending then postBlade .request u s else s)
    | none => repostRequests us s

/-- The reply window of a record ends (R166). -/
def replyTimeout (uplink : Nat) (s : State) : State :=
  match slotGet s.lb uplink with
  | none => s
  | some r =>
    if 0 < r.pending then
      (s.keepRecord uplink { r with window := .stopped 0, pending := 0, last := .timeout }).latchLane .timeout uplink
    else s.putRecord uplink { r with window := .stopped 0 }

end Sys2Proof.Machine
end

