-- ==== Sys2Proof/Machine/RosterOps.lean ====
section
/-! DEFINITION. The roster (03_roster_and_inventory.md): entries made, updated, swapped and removed by frames and by
aging, the change queue, the removal report, and the delivery of a good frame to RO and then to the blocks of its kind
(R24, R42 to R57); mail accepted (R189, R190). -/

namespace Sys2Proof.Machine

def State.withRo (s : State) (x : Roster) : State := { s with ro := x }

def State.putEntry (s : State) (slot : Nat) (e : RosterEntry) : State :=
  s.withRo { s.ro with entries := slotSet s.ro.entries slot e }

/-! ## The change queue (R56, R57) -/

/-- Add a change record at the back; a seventeenth pushes the head out and counts it lost. ROSTER is latched. -/
def addChange (kind : ChangeKind) (slot : Nat) (e : RosterEntry) (s : State) : State :=
  let c : Change :=
    { kind := kind, slot := slot, role := e.role, serial := e.identity.map (·.serial), stamp := s.ro.roundCount }
  let q := s.ro.changes ++ [c]
  let s1 :=
    if Config.changeQueue < q.length then
      s.withRo { s.ro with changes := q.drop 1, lost := satSucc 255 s.ro.lost }
    else s.withRo { s.ro with changes := q }
  s1.latch .roster

/-! ## Removal (R49, R51) -/

/-- A removal report at BU: the claim goes, the contributions are gone, BU recomputes, and PS is noticed (R51, R63). -/
def budgetRemoved (slot : Nat) (s : State) : State :=
  noticed (fun x => recompute { x with bu := { x.bu with claims := dropClaim slot x.bu.claims } }) s

/-- A removal report at LM (R163, R169). -/
def lanesReported (slot : Nat) (s : State) : State :=
  match s.role with
  | some .uplink => lanesRemoved slot s
  | some .blade => { s with lb := slotDel s.lb slot }
  | some .fan | some .power | none => s

/-- The removal report of R51, to BU, FC and LM. -/
def removalReport (slot : Nat) (s : State) : State :=
  let s1 := budgetRemoved slot s
  lanesReported slot (if s1.isRole .fan then viewRemoved slot s1 else s1)

/-- A PRESENT entry becomes ABSENT, with its change record and its removal report (R49, R53). -/
def removeEntry (kind : ChangeKind) (slot : Nat) (e : RosterEntry) (s : State) : State :=
  removalReport slot (addChange kind slot e (s.withRo { s.ro with entries := slotDel s.ro.entries slot }))

/-! ## Creation, swap, update -/

/-- The claim of another slot as BU enters it (R63). -/
def claimOfPart (slot : Nat) (role : Role) (p : ClaimPart) : Claim :=
  { slot := slot
    cls := if role = .fan then .fan else .ranked
    priority := p.priority
    amount := p.amount
    floor := p.floor
    level := p.level
    admitted := false }

/-- BU is told that a slot has become PRESENT, with its claim part if it has one (R43, R73). -/
def budgetPresent (slot : Nat) (e : RosterEntry) (s : State) : State :=
  noticed (fun x => recompute
    (match e.claim with
     | some p =>
       { x with bu := { x.bu with
          claims := insertClaim (claimOfPart slot e.role p) (dropClaim slot x.bu.claims) } }
     | none => x)) s

/-- The entry an ANNOUNCE makes of an ABSENT slot (R43). -/
def entryOfAnnounce (a : Announcement) : RosterEntry :=
  { role := a.role
    power := some a.power
    level := some a.level
    flags := a.flags
    claim := if a.role = .power then none else a.claim }

/-- The entry a JOIN makes of an ABSENT slot (R43). -/
def entryOfJoin (role : Role) (i : Identity) : RosterEntry := { role := role, identity := some i }

/-- An ABSENT slot becomes PRESENT: INSERTED (R43). -/
def insertEntry (slot : Nat) (e : RosterEntry) (s : State) : State :=
  budgetPresent slot e (addChange .inserted slot e (s.putEntry slot e))

/-- A swap (R45): the old content is removed with its report, then the entry is rebuilt; one SWAPPED record. -/
def swapEntry (slot : Nat) (e : RosterEntry) (s : State) : State :=
  let s1 := removalReport slot (s.withRo { s.ro with entries := slotDel s.ro.entries slot })
  budgetPresent slot e (addChange .swapped slot e (s1.putEntry slot e))

/-- The supply part after an ANNOUNCE of a POWER entry (R46). -/
def supplyAnnounced (offline : Bool) (p : Option SupplyPart) : Option SupplyPart :=
  if offline then p.map (fun x => { x with capacity := 0, state := .offline }) else p

/-- The entry after an ANNOUNCE whose role agrees (R46). -/
def RosterEntry.announced (e : RosterEntry) (a : Announcement) : RosterEntry :=
  { e with
    power := some a.power
    level := some a.level
    flags := a.flags
    claim := if e.role = .power then none else a.claim
    supply := if e.role = .power then supplyAnnounced a.flags.supplyOffline e.supply else e.supply }

/-- BU takes what an ANNOUNCE changed in claim and supply (R46, R63, R73). -/
def budgetAnnounced (slot : Nat) (e e' : RosterEntry) (s : State) : State :=
  noticed (fun x =>
    let x1 :=
      match e'.claim with
      | some p => setClaim (claimOfPart slot e'.role p) x
      | none => delClaim slot x
    if e.supply = e'.supply then x1 else recompute x1) s

/-- ANNOUNCE of a PRESENT entry whose role agrees; a reported power state leaving ON reaches an uplink's lanes (R46,
R159). -/
def announceEntry (slot : Nat) (e : RosterEntry) (a : Announcement) (s : State) : State :=
  let e' := e.announced a
  let s1 := budgetAnnounced slot e e' (s.putEntry slot e')
  if s1.isRole .uplink && e.power == some .on && e'.power != some .on then lanesUnpowered slot s1 else s1

/-- ANNOUNCE at RO (R43, R45, R46). -/
def takeAnnounce (slot : Nat) (a : Announcement) (s : State) : State :=
  match slotGet s.ro.entries slot with
  | none => insertEntry slot (entryOfAnnounce a) s
  | some e => if e.role = a.role then announceEntry slot e a s else swapEntry slot (entryOfAnnounce a) s

/-- JOIN at RO (R43 to R45). -/
def takeJoin (slot : Nat) (role : Role) (i : Identity) (s : State) : State :=
  match slotGet s.ro.entries slot with
  | none => insertEntry slot (entryOfJoin role i) s
  | some e =>
    if e.role ≠ role then swapEntry slot (entryOfJoin role i) s
    else
      match e.identity with
      | none =>
        let e' := { e with identity := some i }
        addChange .identified slot e' (s.putEntry slot e')
      | some old =>
        if old.serial = i.serial then s.putEntry slot { e with identity := some i }
        else swapEntry slot (entryOfJoin role i) s

/-! ## The other kinds, from a PRESENT entry -/

/-- CLAIM (R47). -/
def takeClaim (slot : Nat) (e : RosterEntry) (p : ClaimPart) (s : State) : State :=
  if e.role = .power then s
  else noticed (setClaim (claimOfPart slot e.role p)) (s.putEntry slot { e with claim := some p })

/-- RELEASE (R47). -/
def takeReleaseFrame (slot : Nat) (e : RosterEntry) (s : State) : State :=
  if e.role = .power then s else noticed (delClaim slot) (s.putEntry slot { e with claim := none })

/-- CAPACITY (R48). -/
def takeCapacity (slot : Nat) (e : RosterEntry) (p : SupplyPart) (s : State) : State :=
  if e.role = .power then noticed recompute (s.putEntry slot { e with supply := some p }) else s

/-- FANSTAT (R48). -/
def takeFanstat (slot : Nat) (e : RosterEntry) (p : FanPart) (s : State) : State :=
  if e.role = .fan then noticed recompute (s.putEntry slot { e with fan := some p }) else s

/-- LANE_GRANT at LM of a blade in ACTIVE (R167, R195). -/
def grantFrame (slot : Nat) (e : RosterEntry) (p : List Byte) (s : State) : State :=
  if s.isRole .blade && s.inLife .active && e.role == .uplink && targetSlot p == s.ownSlot then
    match readGrant p with
    | some g => takeGrant slot g.1 g.2 s
    | none => s
  else s

/-- LANE_REQUEST at LM of an uplink in ACTIVE (R152). -/
def requestFrame (slot : Nat) (e : RosterEntry) (p : List Byte) (s : State) : State :=
  if s.isRole .uplink && s.inLife .active && targetSlot p == s.ownSlot then takeRequest slot (byteAt p 1) e s else s

/-- LANE_RELEASE at LM of an uplink in ACTIVE (R158). -/
def releaseFrame (slot : Nat) (e : RosterEntry) (p : List Byte) (s : State) : State :=
  if s.isRole .uplink && s.inLife .active && e.role == .blade && targetSlot p == s.ownSlot then takeRelease slot s
  else s

/-- THERMAL at FC of a fan station (R136). -/
def thermalFrame (slot : Nat) (p : List Byte) (s : State) : State :=
  if s.isRole .fan then takeThermal slot (readThermal p).1 (readThermal p).2 s else s

/-! ## Mail (R189, R190) -/

/-- The destination is this station's. -/
def State.mailForMe (s : State) (dest : Nat) : Bool :=
  dest == s.ownSlot || (dest == 63 && s.lc.keys.mailBroadcast)

/-- A MAIL frame at LP. While RESET_N is asserted it is discarded (R194). -/
def takeMail (slot : Nat) (stranger : Bool) (p : List Byte) (s : State) : State :=
  if s.pins.resetAsserted || s.lp.overflow || !s.mailForMe (targetSlot p) then s
  else if Config.mailQueue ≤ s.lp.mailQueue.length then
    { s with lp := { s.lp with overflow := true } }.latch .mailOverflow
  else
    let item : MailItem := { source := slot, dest := targetSlot p, stranger := stranger, data := p.drop 1 }
    let s1 := { s with lp := { s.lp with mailQueue := s.lp.mailQueue ++ [item] } }
    if s.lc.keys.mailThreshold ≤ s1.lp.mailQueue.length then s1.latch .mail else s1

/-! ## Delivery (R24, R42, R50) -/

/-- A frame from a PRESENT slot, its entry as refreshed (R42), handed on by its kind. -/
def deliverKnown (kind : Nat) (slot : Nat) (e : RosterEntry) (p : List Byte) (s : State) : State :=
  match kind with
  | 0 => takeClaim slot e (readClaim p) s
  | 1 => takeReleaseFrame slot e s
  | 2 => takeCapacity slot e (readCapacity p) s
  | 3 => takeFanstat slot e (readFanstat p) s
  | 4 => grantFrame slot e p s
  | 5 => requestFrame slot e p s
  | 6 => releaseFrame slot e p s
  | 7 => thermalFrame slot p s
  | 8 => takeAnnounce slot (readAnnounce p) s
  | 9 => takeJoin slot (readJoin p).1 (readJoin p).2 s
  | 10 => removeEntry .removed slot e s
  | _ => takeMail slot false p s

/-- A frame from an ABSENT slot: JOIN and ANNOUNCE make an entry, MAIL goes on with the stranger mark, any other kind is
a stranger frame (R43, R50). -/
def deliverUnknown (kind : Nat) (slot : Nat) (p : List Byte) (s : State) : State :=
  match kind with
  | 8 => takeAnnounce slot (readAnnounce p) s
  | 9 => takeJoin slot (readJoin p).1 (readJoin p).2 s
  | 11 => takeMail slot true p s
  | _ => s.count fun c => { c with strangers := bump c.strangers }

/-- A good frame of another station reaches RO, then the blocks of its kind. -/
def deliver (kind : Nat) (slot : Nat) (p : List Byte) (s : State) : State :=
  match slotGet s.ro.entries slot with
  | some e =>
    let fresh := { e with silence := 0 }
    deliverKnown kind slot fresh p (s.putEntry slot fresh)
  | none => deliverUnknown kind slot p s

end Sys2Proof.Machine
end

