-- ==== Sys2Proof/Machine/Life.lean ====
section
/-! DEFINITION. The life cycle's shared operations (01_station_life_cycle.md, 10_ejection_and_removal.md): READY and
ACTIVE entry (R7, R11), CLASH (R12, R13, R103), restart (R15), removal (R174 to R179), surprise removal (R180), a good
frame received (R5, R12, R24), and what every command ends with. -/

namespace Sys2Proof.Machine

def State.withLc (s : State) (x : LifeCycle) : State := { s with lc := x }

/-! ## READY and ACTIVE -/

/-- An unattended station unmasks every event at GO (R8). -/
def State.attended (s : State) : Bool :=
  match s.lc.straps with
  | some x => x.attended
  | none => false

/-- What a role posts and starts on every entry to ACTIVE: FAN its claim (R105), POWER its capacity and an evaluation
(R109, R111). The change of a FAN station's reported power state to ON latches no POWER event (log entry 42). -/
def roleEntry (s : State) : State :=
  match s.role with
  | some .fan =>
    let s1 := recompute (s.withPs { s.ps with power := .on, level := .full })
    writeClaim s1.lc.keys.fanClaim s1
  | some .power => evaluateSupply (post .capacity .retry (recompute s))
  | some .blade | some .uplink | none => s

/-- Entry to ACTIVE from READY (R11). -/
def enterActive (s : State) : State :=
  let s1 :=
    { s with
      lc := { s.lc with life := some .active, goRemembered := false }
      bi := { s.bi with
        txState := .enabled
        failRun := 0
        timerA := s.after s.roundTicks
        timerB := if s.lc.keys.nB = 0 then .stopped 0 else s.after s.beatTicks
        identityCount := 0 }
      ro := { s.ro with
        ownPresent := true
        roundCount := 0
        pointer := 0
        scanStart := s.now
        scanning := true
        sentMark := false
        heardMark := false }
      ps := { s.ps with working := s.lc.keys.requested }
      lp := { s.lp with mask := if s.attended then s.lp.mask else allEvents } }
  roleEntry (post .announce .retry (post .join .retry s1))

/-- Entry to READY; an unattended station, or one that holds a remembered GO, takes GO at once (R6, R7). -/
def enterReady (s : State) : State :=
  let s1 := s.withLc { s.lc with life := some .ready, listenWindow := .stopped 0 }
  if s1.attended && !s1.lc.goRemembered then s1 else enterActive s1

/-! ## CLASH (R12, R13, R103) -/

/-- The power side of CLASH in the consumer roles: everything off at once, no COOLDOWN (R103). -/
def clashPower (s : State) : State :=
  let s1 := if s.ps.power.energised then falls s else s
  (s1.withPs { s1.ps with
    power := .off
    reason := .clash
    pendingOn := false
    holdOff := .stopped 0
    shedHold := .stopped 0
    raise := .noRaise
    raiseHold := .stopped 0
    pgWindow := .stopped 0 }).latchPower .clash

/-- The own claim is removed without a frame, with one recompute (R13, R64, R79). -/
def dropOwnClaim (s : State) : State :=
  match s.ownClaim with
  | some _ => delClaim s.ownSlot s
  | none => s

/-- Entry to CLASH. -/
def enterClash (s : State) : State :=
  let s1 := cutOutbound (s.latchBus .clash)
  let s2 :=
    { s1 with
      lc := { s1.lc with
        life := some .clash, phase := .noRemoval, grace := .stopped 0, listenWindow := .stopped 0 }
      bi := { s1.bi with
        idle := false, txState := .off, mute := .stopped 0, timerA := .stopped 0, timerB := .stopped 0 }
      ro := { s1.ro with scanning := false }
      sup := { s1.sup with drain := s1.sup.drain.freeze s1.now, guard := s1.sup.guard.freeze s1.now }
      fc := { s1.fc with applied := 100 }
      lm := {}
      lb := [] }
  dropOwnClaim (if s2.consumer then clashPower s2 else s2)

/-! ## Restart (R14, R15) -/

/-- RESTART is the command that executes (R183). -/
def PortPhase.restarting : PortPhase → Bool
  | .executing p => decodePacket p == some .restart
  | .idle | .command => false

/-- The wait of a restart ends, or there was none: START is entered, with DONE kept for FETCH (R15) unless a local reset
has lost the result of the RESTART (R194). -/
def restartNow (s : State) : State := s.enterStart s.lp.phase.restarting

/-- The goodbye of a RESTART that has been accepted, or START at once where it has none (R15). The LEAVE of a removal
keeps its mode RETRY, so that a bit error alone does not drop it (log entry 68). -/
def sayGoodbye (s : State) : State :=
  if s.inLife .active then
    let s1 := emptyOutbound (s.putKind .leave ((s.bi.kinds.at .leave).post .single))
    if s1.bi.txState = .mute then restartNow s1
    else s1.withLc { s1.lc with restartWait := s1.afterRounds 1 }
  else if s.inLife .removable && s.bi.kinds.leave != .empty then
    s.withLc { s.lc with restartWait := s.afterRounds 1 }
  else restartNow s

/-- A RESTART that has been accepted (R15): it abandons a supply's drain, so that PWR_EN stays as it is until START drives
it high (R114). -/
def beginRestart (s : State) : State := sayGoodbye (abandonDrain s)

/-! ## Removal (R174 to R177) -/

/-- A removal completes in one event (R35, R176). The failure run goes on from where it stands, a run of 16 left by MUTE
included (log entry 37). -/
def completeRemoval (s : State) : State :=
  let s1 := emptyOutbound (s.putKind .leave ((s.bi.kinds.at .leave).post .retry))
  { s1 with
    lc := { s1.lc with
      life := some .removable
      phase := .removableActive
      grace := .stopped 0
      leaveOutcome := .pending
      fromHalted := false }
    bi := { s1.bi with txState := .off, mute := .stopped 0 }
    ps := { s1.ps with pendingOn := false }
    fc := { s1.fc with applied := 100 } }

/-- The power states in which a consumer's removal completes (R175). -/
def PowerState.isDown : PowerState → Bool
  | .off | .cooldown | .fault => true
  | .claiming | .enabling | .on | .stopping => false

/-- A consumer's removal under way has reached COOLDOWN, FAULT or OFF (R175). -/
def State.removalDue (s : State) : Bool :=
  s.consumer && s.inLife .active && s.ejecting && s.ps.power.isDown

/-- What every command ends with: a removal whose power has gone completes (R175), and BI starts a frame if the bus is
idle (R30). -/
def finish (s : State) : State := startFrame (if s.removalDue then completeRemoval s else s)

/-- The event that led from one state to another has taken the module to COOLDOWN with a min-off of 0 ms, which has ended
where it was started, at the fall of PWR_EN (R83). -/
def State.minOffEnds (s t : State) : Bool :=
  t.consumer && s.ps.power != .cooldown && t.ps.power == .cooldown && t.lc.keys.minOff == 0

/-- The end of a min-off of 0 ms, taken as a separate event at once (R83, R89): after the event that started it has been
taken whole, so that a RELEASE posted by that event starts on an idle bus before the module claims again. -/
def minOffAtOnce (s t : State) : State := if s.minOffEnds t then finish (endCooldown t) else t

/-- The grace end, or POWER_OFF in GRACE (R175). -/
def endGrace (s : State) : State :=
  let s1 := s.withLc { s.lc with phase := .poweringDown, grace := .stopped 0 }
  match s1.ps.power with
  | .enabling | .on => powerOffPath s1
  | .off | .claiming | .stopping | .cooldown | .fault => s1

/-- POWER_OFF in CLAIMING (R87). -/
def claimingOff (s : State) : State :=
  let s1 := withdraw (s.withPs { s.ps with holdOff := .stopped 0 })
  (s1.withPs { s1.ps with power := .off, reason := .request }).latchPower .request

/-- A consumer's handle opens in ACTIVE (R174). -/
def consumerOpens (s : State) : State :=
  let s0 := s.withPs { s.ps with pendingOn := false }
  match s0.ps.power with
  | .off | .fault | .cooldown => completeRemoval s0
  | .claiming => completeRemoval (claimingOff s0)
  | .enabling | .on =>
    let s1 := s0.withLc { s0.lc with phase := .grace, grace := s0.afterMs s0.lc.keys.ejectGrace }
    if s1.lc.keys.ejectGrace = 0 then endGrace s1 else s1
  | .stopping => s0.withLc { s0.lc with phase := .poweringDown }

/-- A supply's handle opens in ACTIVE (R177). -/
def supplyOpens (s : State) : State :=
  let s1 := s.withSup { s.sup with localOff := true }
  let s2 := evaluateSupply (s1.withLc { s1.lc with phase := .poweringDown })
  if s2.sup.drain.isRunning then s2
  else if s2.sup.output then startDrain s2
  else completeRemoval s2

/-- The handle opens before the station has spoken (R173). -/
def opensEarly (s : State) : State :=
  let s1 := s.withLc { s.lc with
    life := some .removable
    phase := .removableEarly
    leaveOutcome := .noLeave
    listenWindow := .stopped 0
    fromHalted := s.inLife .halted }
  if s1.isRole .power then s1.withSup { s1.sup with output := false } else s1

/-- An opening at LC (R173, R174, R177). In a goodbye wait it only latches EJECT (R180; log entry 20). -/
def handleOpens (s : State) : State :=
  match s.lc.life with
  | some .listen | some .ready | some .halted => opensEarly s
  | some .active =>
    if s.waiting || s.lc.phase != .noRemoval then s
    else
      match s.role with
      | some .blade | some .uplink => consumerOpens s
      | some .fan => completeRemoval (withdraw s)
      | some .power => supplyOpens s
      | none => s
  | some .start | some .clash | some .removable | none => s

/-! ## Back from REMOVABLE (R179) -/

/-- Post LANE_GRANT for slots whose record holds an answer. -/
def repostGrants : List Nat → State → State
  | [], s => s
  | t :: ts, s => repostGrants ts (if (s.holder t).answer.isSome then postGrant t s else s)

/-- Post LANE_RELEASE for records whose release mark is set. -/
def repostReleases : List Nat → State → State
  | [], s => s
  | u :: us, s =>
    match slotGet s.lb u with
    | some r => repostReleases us (if r.release then postBlade .release u s else s)
    | none => repostReleases us s

/-- Whether an entry is empty. -/
def Entry.isEmpty : Entry → Bool
  | .empty => true
  | .pending _ | .sending _ _ => false

/-- A closing in REMOVABLE_ACTIVE returns the station to ACTIVE (R179). The working amount stays: the configured one is
taken at an entry from READY (R80; log entry 40). -/
def rejoin (s : State) : State :=
  let leave := s.bi.kinds.leave
  let s1 :=
    { s with
      lc := { s.lc with
        life := some .active
        phase := .noRemoval
        leaveOutcome := if leave.isPending then .noLeave else s.lc.leaveOutcome }
      bi := { s.bi with
        kinds := { s.bi.kinds with leave := leave.emptied }
        txState := .enabled
        failRun := 0
        identityCount := 0 }
      fc := { s.fc with applied := 100 } }
  let s2 := post .announce .retry (post .join .retry s1)
  let s3 := repostReleases (s2.lb.map (·.1)) (repostGrants (s2.lm.holders.map (·.1)) s2)
  roleEntry s3

/-- A closing at LC (R172, R175, R177, R179). -/
def handleCloses (s : State) : State :=
  match s.lc.life with
  | some .removable =>
    if s.waiting then s
    else
      match s.lc.phase with
      | .removableActive => rejoin s
      | .removableEarly => s.enterStart false
      | .noRemoval | .grace | .poweringDown | .unseated => s
  | some .active =>
    if s.waiting then s
    else
      match s.lc.phase with
      | .grace | .poweringDown => s.withLc { s.lc with phase := .noRemoval, grace := .stopped 0 }
      | .noRemoval | .removableActive | .removableEarly | .unseated => s
  | some .start | some .halted | some .listen | some .ready | some .clash | none => s

/-! ## Seated loss (R1, R15, R104, R180) -/

/-- The wait of a surprise removal ends: the power-on condition, and START at once when SEATED is asserted again. -/
def endUnseatedWait (s : State) : State := if s.pins.seated then s.enterStart false else s.powerOn

/-- The role's unseated path (R104, R180). -/
def unseatedPath (s : State) : State :=
  match s.role with
  | some .blade | some .uplink =>
    faultPath .unseated .unseated (if s.ps.power.energised then s else leavingOn .noPower s)
  | some .fan =>
    let s1 := withdraw s
    s1.withFc { s1.fc with applied := 100 }
  | some .power => evaluateSupply (s.withSup { s.sup with output := false, drain := .stopped 0 })
  | none => s

/-- SEATED is lost in ACTIVE (R180). -/
def surprise (s : State) : State :=
  let s1 := unseatedPath (s.withLc { s.lc with phase := .unseated, grace := .stopped 0 })
  let s2 := emptyOutbound (s1.putKind .leave ((s1.bi.kinds.at .leave).post .single))
  let s3 := s2.withLc { s2.lc with leaveOutcome := .pending, unseatedWait := s2.afterRounds 1 }
  if s3.bi.txState = .mute then endUnseatedWait s3 else s3

/-- SEATED is lost: by the life state (R1, R15, R180). -/
def seatedLoss (s : State) : State :=
  let s1 := { s with pins := { s.pins with seated := false } }
  match s1.lc.life with
  | none => s1
  | some .active =>
    if s1.lc.restartWait.isRunning then s1.powerOn
    else if s1.lc.unseatedWait.isRunning then s1
    else surprise s1
  | some .start | some .halted | some .listen | some .ready | some .clash | some .removable => s1.powerOn

/-! ## A good frame of another station -/

/-- The life states in which frames reach RO (R24, R173). -/
def State.delivers (s : State) : Bool :=
  match s.lc.life with
  | some .listen | some .ready | some .active => true
  | some .removable => !s.lc.fromHalted
  | some .start | some .halted | some .clash | none => false

/-- The frame is one more that LISTEN counts; the eighth ends it (R5, R6). -/
def listenMore (s : State) : State :=
  if s.inLife .listen then
    let s1 := s.withLc { s.lc with listenCount := satSucc Config.listenFrames s.lc.listenCount }
    if s1.lc.listenCount = Config.listenFrames then enterReady s1 else s1
  else s

/-- A clashing frame: CLASH, or the end of a goodbye wait (R12, R15, R180). LISTEN counts it; as the eighth it sends the
station to CLASH and not to READY first (log entry 50). -/
def clash (s : State) : State :=
  if s.lc.restartWait.isRunning then restartNow s
  else if s.lc.unseatedWait.isRunning then endUnseatedWait s
  else
    enterClash
      (if s.inLife .listen then s.withLc { s.lc with listenCount := satSucc Config.listenFrames s.lc.listenCount }
       else s)

/-- Unknown kinds and stranger slots are counted and discarded (R24). -/
def countFrame (kind slot : Nat) (s : State) : State :=
  s.count fun c =>
    { c with
      good := bump c.good
      unknownKinds := if 12 ≤ kind then bump c.unknownKinds else c.unknownKinds
      strangers := if Config.slots ≤ slot then bump c.strangers else c.strangers }

/-- The receiver takes frames: after START, with a rate set, and with an idle counted since it last had to wait for one
(R17 to R19, R23). -/
def State.receives (s : State) : Bool :=
  s.lc.life.isSome && !s.inLife .start && s.bi.rate.isSome && s.bi.synced

/-- A LEN that does not agree with the kind is a check error, after which the next idle is waited for (R23). -/
def lengthError (s : State) : State :=
  ({ s with bi := { s.bi with idle := false, synced := false } }).count
    fun c => { c with checkErrors := bump c.checkErrors }

/-- A frame that passed SYNC, stuffing, CHECK and END arrives (R5, R12, R23, R24, R42). A frame of a kind from 12 to 15
or of a source from 48 to 63 is discarded before the roster, so that it refreshes no entry (R24; log entry 38). -/
def receiveFrame (kind slot : Nat) (p : List Byte) (s : State) : State :=
  if !s.receives then s
  else if !lengthFits (BitVec.ofNat 4 kind) p.length then lengthError s
  else
    let s0 := { s with bi := { s.bi with idle := false } }
    let s1 := countFrame kind slot s0
    if !s1.delivers then s1
    else if slot = s1.ownSlot then clash s1
    else
      let s2 := if s1.inLife .active then s1.withRo { s1.ro with heardMark := true } else s1
      if 12 ≤ kind ∨ Config.slots ≤ slot then listenMore s2
      else listenMore (deliver kind slot p s2)

end Sys2Proof.Machine
end

