-- ==== Sys2Proof/Machine/Results.lean ====
section
/-! DEFINITION. What the commands of the local port return after the status byte (12_formats_and_signals.md, Results;
R59, R77, R78, R106, R119, R134, R148, R170, R191, R196, R198). Layout choices that R198 leaves open: log entry 12. -/

namespace Sys2Proof.Machine

/-! ## Small codings (R198) -/

/-- An optional part of a fixed length: a presence byte, then its bytes, all 0 when absent. -/
def optional (len : Nat) : Option (List Byte) → List Byte
  | some bs => 1 :: bs
  | none => 0 :: List.replicate len 0

/-- A demand that is none reads 0xFF. -/
def demandByte : Option Nat → Byte
  | some d => byte d
  | none => 0xFF

/-- A target that is none reads 0x7FFF. -/
def targetBytes : Option Int → List Byte
  | some t => signedBytes t
  | none => [0x7F, 0xFF]

/-- A time in µs: three bytes, none 0xFFFFFF. -/
def periodBytes : Option Nat → List Byte
  | some p => natBytes 3 p
  | none => [0xFF, 0xFF, 0xFF]

def Life.code : Life → Nat
  | .start => 0
  | .halted => 1
  | .listen => 2
  | .ready => 3
  | .active => 4
  | .clash => 5
  | .removable => 6

def Rate.code : Rate → Nat
  | .k125 => 0
  | .k250 => 1
  | .k500 => 2
  | .k1000 => 3

/-- A bus rate, 4 for unlocked. -/
def rateCode : Option Rate → Nat
  | some r => r.code
  | none => 4

def Handle.code : Handle → Nat
  | .closed => 0
  | .opened => 1

def RemovalPhase.code : RemovalPhase → Nat
  | .noRemoval => 0
  | .grace => 1
  | .poweringDown => 2
  | .removableActive => 3
  | .removableEarly => 4
  | .unseated => 5

def LeaveOutcome.code : LeaveOutcome → Nat
  | .noLeave => 0
  | .pending => 1
  | .sent => 2
  | .dropped => 3

def TxState.code : TxState → Nat
  | .enabled => 0
  | .mute => 1
  | .off => 2

def OffReason.code : OffReason → Nat
  | .noReason => 0
  | .request => 1
  | .shed => 2
  | .stale => 3
  | .clash => 4
  | .pgTimeout => 5
  | .pgLost => 6
  | .overtemp => 7
  | .unseated => 8

def ShedCause.code : ShedCause → Nat
  | .pulse => 0
  | .budget => 1
  | .thermal => 2

def BadCause.code : BadCause → Nat
  | .noCause => 0
  | .slow => 1
  | .stall => 2

def Redundancy.code : Redundancy → Nat
  | .noRedundancy => 0
  | .nPlusOne => 1
  | .halfFeeds => 2

def ChangeKind.code : ChangeKind → Nat
  | .inserted => 0
  | .identified => 1
  | .swapped => 2
  | .removed => 3
  | .expired => 4

def MailStatus.code : MailStatus → Nat
  | .unused => 0
  | .pending => 1
  | .sending => 2
  | .sent => 3
  | .failed => 4
  | .aborted => 5

def PowerCause.code : PowerCause → Nat
  | .request => 0
  | .admitted => 1
  | .powerGood => 2
  | .raise => 3
  | .shed => 4
  | .minOn => 5
  | .minOff => 6
  | .clear => 7
  | .pgTimeout => 8
  | .pgLost => 9
  | .overtemp => 10
  | .unseated => 11
  | .stale => 12
  | .clash => 13
  | .offline => 14
  | .good => 15
  | .warm => 16
  | .failed => 17
  | .drained => 18

/-- The kind of a raise in flight; a raise that LM owns is an AMOUNT raise (R100). -/
def Raise.code : Raise → Nat
  | .noRaise => 0
  | .level => 1
  | .amount _ | .lanes => 2

/-- The LANE cause bytes of an outcome: outcome and reason (R196). TIMEOUT and LATE have the reason byte 0 (log entry
66). -/
def LastOutcome.causeBytes : LastOutcome → List Byte
  | .noOutcome => [0, 0]
  | .answer a => [byte a.outcome.code, byte a.reason.code]
  | .timeout => [4, 0]
  | .late => [5, 0]

/-- The last outcome and reason of a lane record (R198). TIMEOUT, LATE and none have the reason byte 0 (log entry
66). -/
def LastOutcome.recordBytes : LastOutcome → List Byte
  | .noOutcome => [0xFF, 0]
  | .answer a => [byte a.outcome.code, byte a.reason.code]
  | .timeout => [4, 0]
  | .late => [5, 0]

/-! ## SENSE (R196) -/

/-- The channel mask of latched statuses. -/
def State.sensorMask (s : State) : Nat :=
  let t := s.sm.t
  let v := s.sm.v
  t.x0.latched.toNat + 2 * t.x1.latched.toNat + 4 * t.x2.latched.toNat + 8 * t.x3.latched.toNat +
    16 * v.x0.latched.toNat + 32 * v.x1.latched.toNat + 64 * v.x2.latched.toNat + 128 * v.x3.latched.toNat

/-- The cause bytes of an event: 0 while it is not latched. -/
def State.causes (s : State) (e : Event) (bs : List Byte) : List Byte :=
  if s.hasEvent e then bs else bs.map (fun _ => 0)

/-- The event word and the eleven cause bytes; the SENSOR mask is returned whether or not SENSOR is latched (R127; log
entry 14). -/
def State.senseFields (s : State) : List Byte :=
  halfBytes s.lp.latched ++
    s.causes .power [byte s.lp.powerCause.code] ++
    s.causes .shed [s.lp.shedCauses] ++
    [flag s.bu.stages.lost] ++
    s.causes .lane (s.lp.laneOutcome.causeBytes ++ [byte s.lp.laneSlot]) ++
    s.causes .raiseDenied [s.lp.raiseCauses] ++
    [byte s.sensorMask] ++
    s.causes .fan [s.lp.fanCauses] ++
    s.causes .bus [s.lp.busCauses] ++
    s.causes .eject [s.lp.ejectCauses]

/-! ## READ_CONFIG -/

/-- The roles a key belongs to (the Roles column of the configuration table). -/
def keyOfRole (k : ConfigKey) (r : Role) : Bool :=
  match k with
  | .nA | .nB | .retention | .identityRepeat | .typeCode | .revision | .serial | .redundancy | .derateStep
  | .expectedFans | .reserve | .mailBroadcast | .mailThreshold | .demandTarget | .demandSpan => true
  | .priority | .holdOff | .minOn | .minOff | .pgWindow | .ejectGrace => r == .blade || r == .uplink
  | .requested | .floorAmount | .replyWindow => r == .blade
  | .fanClaim | .rotorsFitted | .tachLimit | .sustainLimit | .ownDemandCounts => r == .fan
  | .baseAmount | .laneCost | .queueWait | .drain => r == .uplink
  | .shedHoldoff => r == .blade || r == .uplink || r == .power
  | .rating => r == .power

/-- The value of a key in the width of its CONFIGURE value; the per-channel keys give four values. -/
def Keys.bytes (k : Keys) : ConfigKey → List Byte
  | .nA => [byte k.nA]
  | .nB => [byte k.nB]
  | .retention => [byte k.retention]
  | .identityRepeat => [byte k.identityRepeat]
  | .typeCode => bytes2 k.typeCode
  | .revision => [byte k.revision]
  | .serial => natBytes 8 k.serial.toNat
  | .priority => [byte k.priority]
  | .requested => bytes2 k.requested
  | .floorAmount => bytes2 k.floorAmount
  | .fanClaim => [byte k.fanClaim]
  | .baseAmount => bytes2 k.baseAmount
  | .laneCost => [byte k.laneCost]
  | .holdOff => [byte k.holdOff]
  | .shedHoldoff => [byte k.shedHoldoff]
  | .minOn => bytes2 k.minOn
  | .minOff => bytes2 k.minOff
  | .pgWindow => bytes2 k.pgWindow
  | .redundancy => [byte k.redundancy.code]
  | .derateStep => [byte k.derateStep]
  | .expectedFans => [byte k.expectedFans]
  | .reserve => bytes2 k.reserve
  | .rating => bytes2 k.rating
  | .rotorsFitted => [byte k.rotorsFitted]
  | .tachLimit => bytes2 k.tachLimit
  | .sustainLimit => bytes2 k.sustainLimit
  | .ownDemandCounts => [flag k.ownDemandCounts]
  | .queueWait => [byte k.queueWait]
  | .drain => [byte k.drain]
  | .replyWindow => [byte k.replyWindow]
  | .ejectGrace => bytes2 k.ejectGrace
  | .mailBroadcast => [flag k.mailBroadcast]
  | .mailThreshold => [byte k.mailThreshold]
  | .demandTarget => k.demandTarget.list.flatMap targetBytes
  | .demandSpan => k.demandSpan.list.map byte

/-- Every key in order, a key of another role reading 0. -/
def keyFields (k : Keys) (r : Role) : List Byte :=
  ConfigKey.all.flatMap (fun c => if keyOfRole c r then k.bytes c else (k.bytes c).map (fun _ => 0))

/-- READ_CONFIG (R10, R171, R198). It is answered only while the straps are held. -/
def State.configFields (s : State) : List Byte :=
  match s.lc.straps, s.lc.life with
  | some x, some l =>
    [byte l.code, byte x.role.code, byte x.slot, byte x.rate.code, flag x.attended, byte (x.capCode.getD 0),
     byte ((x.feed.map Feed.code).getD 0), byte (rateCode s.bi.rate), flag s.lc.aloneStart, byte s.lc.listenCount] ++
    keyFields s.lc.keys x.role ++
    [byte s.lc.handle.code, byte s.lc.phase.code] ++ bytes2 (s.msLeft s.lc.grace) ++ [byte s.lc.leaveOutcome.code]
  | _, _ => []

/-! ## READ_POWER (R106, R119) -/

/-- The milliseconds left of a wait that began at a moment. -/
def State.waitLeft (s : State) (since : Option Nat) (ms : Nat) : Nat :=
  match since with
  | some t => s.msLeft (.running (t + msTicks ms))
  | none => 0

/-- The milliseconds of min-on left: while PWR_EN is high (R88). -/
def State.minOnLeft (s : State) : Nat := if s.ps.power.energised then s.waitLeft s.ps.roseAt s.lc.keys.minOn else 0

/-- The milliseconds of min-off left: while PWR_EN is low (R89). In CLASH min-off has stopped (R83, R103; log entry 48). -/
def State.minOffLeft (s : State) : Nat :=
  if s.ps.power.energised || s.inLife .clash then 0 else s.waitLeft s.ps.fellAt s.lc.keys.minOff

/-- The amount a raise in flight tries: for a LEVEL raise the FULL amount (log entry 62); LM's raise tries the claim as
written (log entry 12). -/
def State.triedAmount (s : State) : Nat :=
  match s.ps.raise with
  | .noRaise => 0
  | .level => s.fullAmount
  | .amount n => n
  | .lanes => s.fullAmount

/-- The sequencer record. The working and floor amounts are a blade's, base amount and lanes in use an uplink's. -/
def State.sequencerFields (s : State) : List Byte :=
  let blade := s.isRole .blade
  [byte s.ps.power.code, byte s.ps.level.code, byte s.ps.desired.code] ++
    bytes2 (if blade then s.ps.working else 0) ++
    bytes2 (if blade then s.lc.keys.floorAmount else 0) ++
    (if s.isRole .uplink then bytes2 s.lc.keys.baseAmount ++ [byte (lanesInUse s.lm.lanes)] else []) ++
    optional 4 (s.ownClaim.map (fun c => bytes2 c.amount ++ [byte c.level.code, flag c.admitted])) ++
    [byte s.ps.reason.code, flag s.ps.pendingOn, byte (s.roundsLeft s.ps.holdOff), byte (s.roundsLeft s.ps.shedHold),
     byte s.ps.shedCause.code, byte s.ps.raise.code] ++
    bytes2 s.triedAmount ++
    bytes2 s.minOnLeft ++ bytes2 s.minOffLeft ++
    [flag s.pwrEn, flag s.throttle, flag s.pins.powerGood, flag s.ro.selfStale, flag s.thermalCritical]

/-- The supply record. -/
def State.supplyFields (s : State) : List Byte :=
  let cap : Nat :=
    match s.lc.straps with
    | some x => x.capCode.getD 0
    | none => 0
  [byte s.sup.state.code] ++ bytes2 s.sup.reported ++ bytes2 s.lc.keys.rating ++
    [byte cap, byte s.ownSupply.feed.code, flag s.pwrEn, flag s.pins.powerGood, flag s.sup.localOff,
     byte (s.roundsLeft s.sup.drain), byte s.sup.overload] ++
    bytes2 s.sup.load ++ [byte (s.roundsLeft s.sup.guard), flag s.ro.selfStale]

def State.powerFields (s : State) : List Byte := if s.isRole .power then s.supplyFields else s.sequencerFields

/-! ## READ_BUDGET and READ_CLAIMS (R77, R78) -/

/-- The position of a slot's claim: the claims ahead of it (R62). -/
def positionOf (slot : Nat) : List Claim → Nat
  | [] => 0
  | c :: cs => if c.slot = slot then 0 else positionOf slot cs + 1

def State.budgetFields (s : State) : List Byte :=
  let st := s.bu.stages
  let k := s.lc.keys
  [byte k.redundancy.code, byte k.derateStep, byte k.expectedFans] ++ bytes2 k.reserve ++
    [byte st.n] ++ bytes2 st.sum ++ bytes2 st.largest ++ bytes2 st.sumA ++ bytes2 st.sumB ++
    bytes2 st.s ++ [flag st.lost, byte st.fans, byte st.f, byte st.h, byte st.d] ++
    bytes2 st.cd ++ bytes2 st.cEff ++
    [byte s.bu.claims.length, byte st.prefixLen] ++ bytes2 st.prefixSum ++
    optional 2 (s.ownClaim.map (fun c => [byte (positionOf s.ownSlot s.bu.claims), flag c.admitted]))

/-- One claim in READ_CLAIMS: six bytes. -/
def Claim.bytes (c : Claim) : List Byte :=
  [byte c.slot,
   byte ((if c.cls = .fan then 128 else 0) + c.level.code * 64 + c.admitted.toNat * 32 + c.priority)] ++
    bytes2 c.amount ++ bytes2 c.floor

def State.claimsFields (s : State) : List Byte :=
  [byte s.bu.claims.length, byte s.bu.stages.prefixLen] ++ s.bu.claims.flatMap Claim.bytes

/-! ## READ_ROSTER (R59) -/

def Identity.bytes (i : Identity) : List Byte := bytes2 i.typeCode ++ [byte i.revision] ++ natBytes 8 i.serial.toNat

def ClaimPart.bytes (c : ClaimPart) : List Byte := bytes2 c.amount ++ bytes2 c.floor ++ [byte c.priority, byte c.level.code]

def SupplyPart.bytes (x : SupplyPart) : List Byte := bytes2 x.capacity ++ [byte x.state.code, byte x.feed.code]

def FanPart.bytes (x : FanPart) : List Byte := [byte x.fitted, byte x.failed, byte x.duty, flag x.sustained]

/-- The three reported flags in one byte, in the bits ANNOUNCE gives them (log entry 52). -/
def ReportedFlags.byte (f : ReportedFlags) : Byte :=
  Machine.byte (f.selfStale.toNat + 2 * f.shedRunning.toNat + 4 * f.supplyOffline.toNat)

/-- A PRESENT entry. -/
def RosterEntry.bytes (e : RosterEntry) : List Byte :=
  [1, byte e.role.code] ++ optional 11 (e.identity.map Identity.bytes) ++
    [(e.power.map (fun p => byte p.code)).getD Config.notReportedCode,
     (e.level.map (fun l => byte l.code)).getD Config.notReportedCode, e.flags.byte] ++
    optional 6 (e.claim.map ClaimPart.bytes) ++ optional 4 (e.supply.map SupplyPart.bytes) ++
    optional 4 (e.fan.map FanPart.bytes) ++ [byte e.silence]

/-- An ABSENT entry; its role and NOT_REPORTED are coded by free values (log entry 13). -/
def absentBytes : List Byte :=
  [0, Config.noRoleCode] ++ optional 11 none ++ [Config.notReportedCode, Config.notReportedCode, 0] ++
    optional 6 none ++ optional 4 none ++ optional 4 none ++ [0]

/-- READ_ROSTER: the entry, and for the own slot the self-silence count and SELF-STALE as an optional part. -/
def State.rosterFields (s : State) (slot : Nat) : List Byte :=
  (match s.entryOf slot with
   | some e => e.bytes
   | none => absentBytes) ++
    optional 2 (if slot = s.ownSlot then some [byte s.ro.selfSilence, flag s.ro.selfStale] else none)

/-! ## READ_CHANGES (R58) -/

/-- One change record: 13 bytes. -/
def Change.bytes (c : Change) : List Byte :=
  [byte c.kind.code, byte c.slot, byte (c.role.code + (if c.serial.isSome then 128 else 0))] ++ bytes2 c.stamp ++
    natBytes 8 (c.serial.getD 0).toNat

def State.changesFields (s : State) : List Byte :=
  let out := s.ro.changes.take Config.changesRead
  [byte out.length, byte (s.ro.changes.length - out.length), byte s.ro.lost] ++ out.flatMap Change.bytes

/-! ## READ_MONITOR (R134) -/

def hottestBytes : Option Reading → List Byte
  | some r => r.bytes
  | none => [0x7F, 0xFF]

/-- The part of the result that only a T channel has: conditions, target, span, demand. -/
def State.tPart (s : State) (k : Nat) : List Byte :=
  let c := s.sm.t.at k
  [flag c.critical, flag c.shutdown] ++ targetBytes (s.lc.keys.demandTarget.at k) ++
    [byte (s.lc.keys.demandSpan.at k), demandByte c.demand]

def State.monitorFields (s : State) (channel : Nat) : List Byte :=
  let record :=
    if channel < 4 then
      let c := s.sm.t.at channel
      c.reading.bytes ++ signedBytes c.overLimit ++ signedBytes c.hysteresis ++ signedBytes c.critLimit ++
        signedBytes c.shutLimit ++ [flag c.out, flag c.latched] ++ optional 6 (some (s.tPart channel))
    else
      let c := s.sm.v.at (channel - 4)
      bytes2 c.reading ++ signedBytes c.high ++ signedBytes c.low ++ [0, 0, 0, 0] ++ [flag c.out, flag c.latched] ++
        optional 6 none
  record ++ [demandByte s.sm.ownDemand] ++ hottestBytes s.sm.hottest ++ [flag s.thermalCritical]

/-! ## READ_FAN (R148) -/

/-- One fitted rotor: nine bytes. -/
def State.rotorBytes (s : State) (r : Rotor) : List Byte :=
  [flag r.failed, byte r.badRun, byte r.goodRun, byte r.lastBad.code] ++ periodBytes r.period ++
    bytes2 (min 65535 (s.rotorElapsed r / Config.ticksPerMs))

/-- One view entry: six bytes. -/
def viewBytes (p : Nat × ViewEntry) : List Byte :=
  [byte p.1, byte p.2.demand] ++ p.2.hottest.bytes ++ [byte p.2.age, flag p.2.fresh]

/-- A rotor record of which the moment of the last edge alone is shown. -/
def Rotor.edgeOnly (r : Rotor) : Rotor := { lastEdge := r.lastEdge }

/-- What READ_FAN shows of FC: in HALTED the initial record of R135, with the elapsed times as they stand (R148). -/
def State.fanShown (s : State) : FanControl :=
  if s.inLife .halted then { rotors := s.fc.rotors.map Rotor.edgeOnly, settledAt := s.fc.settledAt } else s.fc

/-- The fan record and its keys, byte by byte (R198); a last compensated duty that is none reads 0xFF like a target (log
entry 67), and the view is listed by rising slot (log entry 64). -/
def State.fanRecordFields (s : State) : List Byte :=
  [byte s.fc.applied, demandByte s.fc.lastTarget, demandByte s.fc.lastComp, byte s.lc.keys.rotorsFitted,
   byte (rotorsFailed s.fc.rotors)] ++
    (s.fc.rotors.list.take s.lc.keys.rotorsFitted).flatMap s.rotorBytes ++
    bytes2 s.fc.sustained ++ [flag s.fc.sustainedFlag] ++ bytes2 s.lc.keys.sustainLimit ++
    [flag s.lc.keys.ownDemandCounts] ++ optional 1 (s.ownViewDemand.map (fun d => [byte d])) ++
    [byte s.fc.view.length] ++ s.fc.view.flatMap viewBytes

def State.fanFields (s : State) : List Byte := State.fanRecordFields { s with fc := s.fanShown }

/-! ## READ_LANES (R170) -/

/-- One lane: state by its place in the table of R149, and its slot. -/
def laneBytes : Option LaneUse → List Byte
  | none => [0, 0]
  | some (.reserved t) => [1, byte t]
  | some (.granted t) => [2, byte t]
  | some (.draining t _) => [3, byte t]
  | some .faulted => [4, 0]

/-- The lanes RESERVED, as 16 flags. -/
def reservedSet (lanes : SlotMap LaneUse) : Half := laneFlags ((lanes.filter (fun p => p.2.isReserved)).map (·.1))

/-- One answer to send: four bytes. -/
def answerBytes (p : Nat × Holder) : List Byte :=
  match p.2.answer with
  | some a => [byte p.1, byte a.outcome.code, byte a.reason.code, flag p.2.notify]
  | none => []

def State.uplinkLanesFields (s : State) : List Byte :=
  let answers := s.lm.holders.filter (fun p => p.2.answer.isSome)
  (List.range Config.lanes).flatMap (fun k => laneBytes (slotGet s.lm.lanes k)) ++
    [byte (lanesInUse s.lm.lanes)] ++ bytes2 s.fullAmount ++
    [byte s.lm.queue.length] ++ s.lm.queue.flatMap (fun r => [byte r.slot, byte r.count, byte r.age]) ++
    optional 4 (s.lm.reservation.map (fun r =>
      [byte r.slot] ++ halfBytes (reservedSet s.lm.lanes) ++ [byte (s.roundsLeft r.hold)])) ++
    [byte answers.length] ++ answers.flatMap answerBytes

/-- One blade lane record: eight bytes. -/
def State.recordBytes (s : State) (p : Nat × LaneRecord) : List Byte :=
  [byte p.1] ++ halfBytes p.2.held ++ [byte p.2.pending, byte (s.roundsLeft p.2.window), flag p.2.release] ++
    p.2.last.recordBytes

/-- READ_LANES (R170). Answers to send and records in use are listed by rising slot (log entry 64). -/
def State.lanesFields (s : State) : List Byte :=
  if s.isRole .uplink then s.uplinkLanesFields else [byte s.lb.length] ++ s.lb.flatMap s.recordBytes

/-! ## READ_MAIL (R191) -/

/-- The head of the receive queue, its data padded to eleven bytes. -/
def MailItem.bytes (m : MailItem) : List Byte :=
  [byte m.source, byte m.dest, flag m.stranger, byte m.data.length] ++
    (m.data ++ List.replicate (11 - m.data.length) 0)

/-- Tag and status of an outbox record; an unused record shows tag 0 (log entry 65). -/
def OutBox.bytes (b : OutBox) : List Byte := [byte b.tag, byte b.status.code]

/-- READ_MAIL, of the state before the head is removed. -/
def State.mailFields (s : State) : List Byte :=
  optional 15 (s.lp.mailQueue.head?.map MailItem.bytes) ++
    [byte (s.lp.mailQueue.length - 1), flag s.lp.overflow] ++ s.lp.box0.bytes ++ s.lp.box1.bytes

/-! ## READ_BUS (R39) -/

/-- Every counter in the order of R39. -/
def BusStats.list (c : BusStats) : List Nat :=
  [c.sent, c.good, c.arbitration, c.bitErrors, c.failedSingles, c.shedDisturbance, c.checkErrors, c.stuffErrors,
   c.truncations, c.unknownKinds, c.strangers, c.latePeriodics, c.rateOverflows, c.rateMismatches, c.shedPulses]

/-- READ_BUS (R39, R198): the counters, the transmitter state, the failure run, the remaining MUTE time as one byte that is 0
outside MUTE (log entry 12), and the rate. -/
def State.busFields (s : State) : List Byte :=
  s.bi.stats.list.flatMap bytes2 ++
    [byte s.bi.txState.code, byte s.bi.failRun, byte (s.roundsLeft s.bi.mute), byte (rateCode s.bi.rate)]

end Sys2Proof.Machine
end

