-- ==== Sys2Proof/Machine/Port.lean ====
section
/-! DEFINITION. The local command port (11_local_command_port.md): how a command comes to be taken (R182, R183), who
may give it where (R185), its status and result, FETCH (R184), local reset (R194). -/

namespace Sys2Proof.Machine

def State.withLp (s : State) (x : LocalPort) : State := { s with lp := x }

/-! ## Statuses (R184, R198) -/

inductive Status where
  | done | notReady | invalid | state | range | full | role
  deriving DecidableEq, Repr

def Status.code : Status → Byte
  | .done => 0
  | .notReady => 1
  | .invalid => 2
  | .state => 3
  | .range => 4
  | .full => 5
  | .role => 6

/-! ## How a command is taken (R183, R194; log entry 11) -/

/-- How a command of the port comes to its owning block: as the packet that is executing; as a packet just closed, with
no PACKET_TAKEN before it; or as one that was executing at a local reset, whose result is lost: the oldest of them. -/
inductive PortPath where
  | executing
  | direct
  | lost
  deriving DecidableEq, Repr

/-- A packet spells a command. -/
def spells (p : Option (List Byte)) (c : Instr) : Bool :=
  match p with
  | some bs => decodePacket bs == some c
  | none => false

/-- The packet that is executing. -/
def PortPhase.packet : PortPhase → Option (List Byte)
  | .executing p => some p
  | .idle | .command => none

def PortPhase.isExecuting : PortPhase → Bool
  | .executing _ => true
  | .idle | .command => false

/-- The port works: standby power is there and RESET_N is not asserted (R194). -/
def State.portWorks (s : State) : Bool := s.pins.standby && !s.pins.resetAsserted

/-- The port heeds a packet that closes now: it works, and it neither ignored the assertion of chip select nor has dropped
the packet since (R194). The packet is judged by the phase at its release (R182), be it that chip select was asserted
while another command was EXECUTING or before START (log entry 35). -/
def State.heedsPacket (s : State) : Bool := s.portWorks && !s.pins.unheard

/-- How the command is taken in the present state; none where it cannot be: without standby power, in the wait of a
restart (R14), while RESET_N is asserted, beside another command that executes (R183), or as a packet the port does not
heed (R194). -/
def State.portPath (s : State) (c : Instr) : Option PortPath :=
  if !s.pins.standby || s.lc.restartWait.isRunning then none
  else if spells s.lp.lostCommands.head? c && !spells s.lp.phase.packet c then some .lost
  else if s.pins.resetAsserted then none
  else if s.lp.phase.isExecuting then (if spells s.lp.phase.packet c then some .executing else none)
  else if s.heedsPacket then some .direct
  else none

/-- Chip select is released. -/
def released (s : State) : State := { s with pins := { s.pins with chipSelect := false, unheard := false } }

/-- SDO was recessive-high through so many bytes (R182). -/
def drivenHigh (bytes : Nat) (s : State) : State := { s with lp := { s.lp with sdo := List.replicate bytes 0xFF } }

/-- A packet that is just being closed releases chip select; SDO was high all through it (R182). -/
def State.closing (s : State) (c : Instr) : PortPath → State
  | .direct => drivenHigh ((encodePacket c).getD []).length (released s)
  | .executing | .lost => s

/-- Place the result and return to IDLE; a lost command leaves none (R183, R194). -/
def State.place (s : State) (path : PortPath) (result : List Byte) : State :=
  match path with
  | .executing | .direct => s.withLp { s.lp with result := some result, phase := .idle }
  | .lost => s.withLp { s.lp with lostCommands := s.lp.lostCommands.tail }

/-! ## The gate and the role (R185) -/

/-- What the life-state gate asks of a command's name. -/
inductive PortClass where
  /-- Its name begins with READ_. -/
  | read
  /-- SENSE and SET_MASK. -/
  | sense
  | restart
  | other
  deriving DecidableEq, Repr

/-- The life-state gate (R2, R4, R13, R180, R185); at power-on LC holds no life state, and nothing but FETCH is taken
(log entry 8). -/
def State.gate (s : State) (k : PortClass) : Bool :=
  match s.lc.life with
  | none | some .start => false
  | some .halted => k == .read || k == .restart
  | some .clash => k == .read || k == .restart || k == .sense
  | some .active => !s.lc.unseatedWait.isRunning || k == .read || k == .sense
  | some .listen | some .ready | some .removable => true

/-- The station's role is among those of the command. -/
def State.roleIn (s : State) (roles : Role → Bool) : Bool :=
  match s.role with
  | some r => roles r
  | none => false

/-- The first refusal of R185: life state, role, the command's own checks. -/
def State.judge (s : State) (k : PortClass) (roles : Role → Bool) (own : State → Option Status) : Option Status :=
  if !s.gate k then some .state
  else if !s.roleIn roles then some .role
  else own s

/-- A command of the port: refused with a status and no fields, or run, its fields placed after DONE (R183, R185). -/
def portCommand (c : Instr) (k : PortClass) (roles : Role → Bool) (own : State → Option Status)
    (run : State → State × List Byte) (s : State) : State :=
  match s.portPath c with
  | none => s
  | some path =>
    let s0 := s.closing c path
    match s0.judge k roles own with
    | some st => finish (s0.place path [st.code])
    | none => finish ((run s0).1.place path (Status.done.code :: (run s0).2))

/-! ## Roles and checks shared by commands -/

def everyRole : Role → Bool
  | .blade | .fan | .power | .uplink => true

def bladeOnly : Role → Bool
  | .blade => true
  | .fan | .power | .uplink => false

def uplinkOnly : Role → Bool
  | .uplink => true
  | .blade | .fan | .power => false

def fanOnly : Role → Bool
  | .fan => true
  | .blade | .power | .uplink => false

def consumers : Role → Bool
  | .blade | .uplink => true
  | .fan | .power => false

def notFan : Role → Bool
  | .blade | .power | .uplink => true
  | .fan => false

/-- No check of its own. -/
def noCheck (_ : State) : Option Status := none

/-- Refused with STATE unless a condition holds. -/
def needs (b : Bool) : Option Status := if b then none else some .state

/-- The first refusal of two. -/
def orElse (a b : Option Status) : Option Status :=
  match a with
  | some x => some x
  | none => b

def State.activeOrRemovable (s : State) : Bool := s.inLife .active || s.inLife .removable

/-- LISTEN, READY, ACTIVE or REMOVABLE. -/
def State.takesSettings (s : State) : Bool :=
  s.inLife .listen || s.inLife .ready || s.inLife .active || s.inLife .removable

/-! ## FETCH (R184) -/

/-- FETCH finds no result: a command executes or a restart waits (R15, R184; log entry 71). -/
def State.notReady (s : State) : Bool := s.lp.phase.isExecuting || s.lc.restartWait.isRunning

/-- What FETCH clocks out: NOT_READY while there is no result or the buffer is empty, else the result; beyond its end
zeros. -/
def State.fetchBytes (s : State) (count : Nat) : List Byte :=
  let all : List Byte :=
    if s.notReady then [Status.notReady.code] else s.lp.result.getD [Status.notReady.code]
  all.take count ++ List.replicate (count - all.length) 0

/-! ## Local reset (R194) -/

/-- Every event is cleared and masked, and every other field of LP takes its initial value (R181). -/
def freshPort : LocalPort := {}

/-- The assertion of RESET_N; a packet in progress is dropped. A command that executes still takes its effect, after those
that earlier local resets have met and that have not taken theirs (log entry 24). -/
def localReset (s : State) : State :=
  { s with
    pins := { s.pins with resetAsserted := true, unheard := s.pins.chipSelect }
    lp := { freshPort with
      sdo := s.lp.sdo
      lostCommands := s.lp.lostCommands ++ s.lp.phase.packet.toList }
    bi := { s.bi with
      mails := []
      tx := s.bi.tx.map (fun t => if t.ref = .mail then { t with ref := .orphan } else t) }
    ro := { s.ro with changes := [], lost := 0 } }

/-- The release of RESET_N: the port works again; ROSTER is latched if the change queue holds a record. -/
def localRelease (s : State) : State :=
  let s1 := { s with pins := { s.pins with resetAsserted := false } }
  if s1.ro.changes.isEmpty then s1 else s1.latch .roster

end Sys2Proof.Machine
end

