-- ==== Sys2Proof/Machine/Station.lean ====
section
/-! DEFINITION. The commands of the life cycle and the pins (R1 to R15, R171 to R180, R194): SEATED, standby power, the
settle time, the listen window, restart and removal waits, RESET_N, the ejector handle, the eject grace. -/

namespace Sys2Proof.Machine

/-! ## SEATED and standby power (R1, R180) -/

/-- SEATED_ASSERTED (R1, R2): with standby power present and no life state, START is entered; in the wait of a surprise
removal only the pin changes (R180). -/
def execSeatedAsserted (straps : StrapPins) (s : State) : Host.Outcome State Fault Refusal :=
  let s1 := { s with pins := { s.pins with seated := true, straps := straps } }
  if s1.pins.standby && s1.lc.life.isNone then .next (s1.enterStart false) else .next s1

/-- SEATED_LOST (R1, R15, R180). -/
def execSeatedLost (s : State) : Host.Outcome State Fault Refusal :=
  if s.pins.seated then .next (finish (seatedLoss s)) else .next s

/-- POWER_REMOVED (R1): all of the state is abandoned, a packet in progress at the port included. -/
def execPowerRemoved (s : State) : Host.Outcome State Fault Refusal :=
  if s.pins.standby then .next ({ s with pins := { s.pins with standby := false, unheard := s.pins.chipSelect } }).powerOn
  else .next s

/-- POWER_APPLIED (R1): the power-on condition, and START if SEATED is asserted. -/
def execPowerApplied (straps : StrapPins) (s : State) : Host.Outcome State Fault Refusal :=
  if s.pins.standby then .next s
  else
    let s1 := { s with pins := { s.pins with standby := true, straps := straps } }
    if s1.pins.seated then .next (s1.enterStart false) else .next s1.powerOn

/-- SURPRISE_REMOVAL (R104, R180). -/
def execSurpriseRemoval (s : State) : Host.Outcome State Fault Refusal :=
  if s.pins.seated then .next (finish (seatedLoss s)) else .next s

/-- UNSEATED_WAIT_END (R180): one round has passed since SEATED was lost. -/
def execUnseatedWaitEnd (s : State) : Host.Outcome State Fault Refusal :=
  if s.lc.unseatedWait.isRunning then .next (endUnseatedWait (s.reach s.lc.unseatedWait)) else .next s

/-- RESTART_WAIT_END (R15): one round has passed since the RESTART was accepted. -/
def execRestartWaitEnd (s : State) : Host.Outcome State Fault Refusal :=
  if s.lc.restartWait.isRunning then .next (restartNow (s.reach s.lc.restartWait)) else .next s

/-! ## The settle time and the listen window (R3 to R6) -/

/-- How many of the seven geography pins are high. -/
def geographyHigh (p : StrapPins) : Nat :=
  ((List.range 6).filter (fun k => p.ga.getLsbD k)).length + p.gap.toNat

/-- The geography is accepted: odd parity and a slot of the chassis (R3). -/
def geographyFits (p : StrapPins) : Bool := geographyHigh p % 2 == 1 && decide (p.ga.toNat < Config.slots)

/-- The values read from straps and geography (R3). -/
def readStraps (p : StrapPins) : Straps :=
  let r := strapRole p
  { role := r
    rate := strapRate p
    attended := p.attended
    capCode := if r = .power then some p.cap.toNat else none
    feed := if r = .power then some (if p.feed then .b else .a) else none
    slot := p.ga.toNat }

/-- The defaults that follow the straps: the rating of a supply and the priority of an uplink (R3, R9's table). -/
def keysFor (p : StrapPins) : Keys :=
  let k : Keys := {}
  match strapRole p with
  | .blade | .fan => k
  | .power => { k with rating := (p.cap.toNat + 1) * 25 }
  | .uplink => { k with priority := 1 }

/-- The settle time ends (R3 to R5): straps and geography are read, the handle is first read (R172), conversion starts
(R121), rotors are timed (R143), and LISTEN or HALTED is entered. -/
def settleEnds (p : StrapPins) (s : State) : State :=
  let fits := geographyFits p
  { s with
    pins := { s.pins with straps := p }
    lc := { s.lc with
      life := some (if fits then .listen else .halted)
      straps := some (readStraps p)
      keys := keysFor p
      listenCount := 0
      settle := .stopped 0
      listenWindow := if fits then s.afterMs Config.listenMs else .stopped 0
      debounce := if s.pins.handleOpen then s.afterMs Config.debounceMs else .stopped 0 }
    bi := { s.bi with rate := if fits then none else some (strapRate p) }
    sup := { s.sup with output := strapRole p == .power && fits }
    sm := { s.sm with conversion := s.afterMs Config.conversionMs }
    fc := { s.fc with settledAt := s.now } }

/-- SETTLE_END (R3). -/
def execSettleEnd (straps : StrapPins) (s : State) : Host.Outcome State Fault Refusal :=
  if s.inLife .start && s.lc.settle.isRunning then .next (settleEnds straps (s.reach s.lc.settle)) else .next s

/-- The strap default becomes the bus rate (R6). -/
def aloneStarts (s : State) : State :=
  match s.bi.rate with
  | some _ => s
  | none =>
    ({ s with
      bi := { s.bi with rate := some s.rateInUse }
      lc := { s.lc with aloneStart := true } }).latchBus .aloneStart

/-- LISTEN_WINDOW_END (R6, R7). -/
def execListenWindowEnd (s : State) : Host.Outcome State Fault Refusal :=
  if s.inLife .listen && s.lc.listenWindow.isRunning then
    .next (finish (enterReady (aloneStarts (s.reach s.lc.listenWindow))))
  else .next s

/-! ## RESET_N (R194) -/

/-- RESET_N_ASSERTED. -/
def execResetNAsserted (s : State) : Host.Outcome State Fault Refusal :=
  if s.pins.resetAsserted then .next s else .next (localReset s)

/-- RESET_N_RELEASED. -/
def execResetNReleased (s : State) : Host.Outcome State Fault Refusal :=
  if s.pins.resetAsserted then .next (localRelease s) else .next s

/-! ## The ejector handle (R172 to R179) -/

/-- The handle is read: in every life state after START. -/
def State.readsHandle (s : State) : Bool := s.lc.life.isSome && !s.inLife .start

/-- HANDLE_INPUT_CHANGE (R172): the debounce timer starts when the input departs from the debounced level and stops when
it returns. -/
def execHandleInputChange (level : Bool) (s : State) : Host.Outcome State Fault Refusal :=
  if s.pins.handleOpen = level then .next s
  else
    let s1 := { s with pins := { s.pins with handleOpen := level } }
    if s1.readsHandle then
      .next (s1.withLc { s1.lc with
        debounce := if level = (s1.lc.handle == .opened) then .stopped 0 else s1.afterMs Config.debounceMs })
    else .next s1

/-- The debounced handle takes a level and EJECT is latched (R172). -/
def debounced (h : Handle) (s : State) : State :=
  let s1 := s.reach s.lc.debounce
  (s1.withLc { s1.lc with handle := h, debounce := .stopped 0 }).latchEject h

/-- HANDLE_OPENING (R172 to R174, R177). -/
def execHandleOpening (s : State) : Host.Outcome State Fault Refusal :=
  if s.lc.debounce.isRunning && s.lc.handle == .closed && s.pins.handleOpen then
    .next (minOffAtOnce s (finish (handleOpens (debounced .opened s))))
  else .next s

/-- HANDLE_CLOSING (R172, R175, R177, R179). -/
def execHandleClosing (s : State) : Host.Outcome State Fault Refusal :=
  if s.lc.debounce.isRunning && s.lc.handle == .opened && !s.pins.handleOpen then
    .next (finish (handleCloses (debounced .closed s)))
  else .next s

/-- GRACE_END (R175). -/
def execGraceEnd (s : State) : Host.Outcome State Fault Refusal :=
  if s.lc.grace.isRunning && s.lc.phase == .grace then
    .next (minOffAtOnce s (finish (endGrace (s.reach s.lc.grace))))
  else .next s

end Sys2Proof.Machine
end

