-- ==== Sys2Proof/Machine/PowerEvents.lean ====
section
/-! DEFINITION. The commands of the power sequencer, the supply, the sensor monitor and the rotors that come from pins
and timers (R85 to R100, R114, R117, R121, R143). -/

namespace Sys2Proof.Machine

/-! ## POWER_GOOD (R86) -/

/-- POWER_GOOD_HIGH: in ENABLING the state becomes ON. -/
def execPowerGoodHigh (s : State) : Host.Outcome State Fault Refusal :=
  let s1 := { s with pins := { s.pins with powerGood := true } }
  if s1.consumer && s1.ps.power == .enabling then .next (minOffAtOnce s (finish (enterOn s1)))
  else .next s1

/-- POWER_GOOD_LOST: in ON the fault path is taken with reason PG_LOST. -/
def execPowerGoodLost (s : State) : Host.Outcome State Fault Refusal :=
  let s1 := { s with pins := { s.pins with powerGood := false } }
  if s1.consumer && s1.ps.power == .on then .next (finish (faultPath .pgLost .pgLost s1)) else .next s1

/-- POWER_GOOD_WINDOW_EXPIRY (R86). -/
def execPowerGoodWindowExpiry (s : State) : Host.Outcome State Fault Refusal :=
  if s.ps.pgWindow.isRunning && s.ps.power == .enabling then
    .next (finish (faultPath .pgTimeout .pgTimeout (s.reach s.ps.pgWindow)))
  else .next s

/-! ## Timers of the sequencer -/

/-- The claim hold-off ends (R85). -/
def holdOffEnds (s : State) : State :=
  let s1 := s.withPs { s.ps with holdOff := .stopped 0 }
  match s1.ownClaim with
  | none => s1
  | some c =>
    if c.admitted then enterEnabling s1
    else if s1.ps.level = .full ∧ s1.floorAmount < c.amount then
      let s2 := s1.withPs { s1.ps with level := .floor }
      (restartHoldOff (writeClaim s2.floorAmount s2)).latchPower .shed
    else s1

/-- HOLD_OFF_END (R85). -/
def execHoldOffEnd (s : State) : Host.Outcome State Fault Refusal :=
  if s.ps.holdOff.isRunning && s.ps.power == .claiming then
    .next (minOffAtOnce s (finish (holdOffEnds (s.reach s.ps.holdOff))))
  else .next s

/-- The clock at the end of a wait that began at a moment. -/
def State.reachWait (s : State) (since : Option Nat) (ms : Nat) : State :=
  match since with
  | some t => s.reach (.running (t + msTicks ms))
  | none => s

/-- MIN_ON_END (R88). -/
def execMinOnEnd (s : State) : Host.Outcome State Fault Refusal :=
  if s.consumer && s.ps.power == .stopping then
    .next (minOffAtOnce s (finish (endStopping (s.reachWait s.ps.roseAt s.lc.keys.minOn))))
  else .next s

/-- MIN_OFF_END (R89). -/
def execMinOffEnd (s : State) : Host.Outcome State Fault Refusal :=
  if s.consumer && s.ps.power == .cooldown then
    .next (finish (endCooldown (s.reachWait s.ps.fellAt s.lc.keys.minOff)))
  else .next s

/-- SHED_HOLDOFF_END (R98, R99). -/
def execShedHoldoffEnd (s : State) : Host.Outcome State Fault Refusal :=
  if s.ps.shedHold.isRunning then
    let s1 := s.reach s.ps.shedHold
    .next (minOffAtOnce s (finish (lookRaise (s1.withPs { s1.ps with shedHold := .stopped 0 }))))
  else .next s

/-- A LEVEL raise ends admitted (R100): the level becomes FULL; an uplink's arbiter looks (R153). -/
def levelRaised (s : State) : State :=
  let s1 := stopRaise (s.withPs { s.ps with level := .full })
  arbiter ((writeClaim s1.fullAmount s1).latchPower .raise)

/-- The raise hold-off ends (R100). -/
def raiseEnds (s : State) : State :=
  match s.ps.raise with
  | .level => if s.ownMark then levelRaised s else endLevelRaise s.ps.shedCause .budget true s
  | .amount n => if s.ownMark then stopRaise (s.withPs { s.ps with working := n }) else failAmountRaise s
  | .noRaise | .lanes => s.withPs { s.ps with raiseHold := .stopped 0 }

/-- RAISE_HOLD_OFF_END (R100). -/
def execRaiseHoldOffEnd (s : State) : Host.Outcome State Fault Refusal :=
  if s.ps.raiseHold.isRunning then
    .next (minOffAtOnce s (finish (raiseEnds (s.reach s.ps.raiseHold))))
  else .next s

/-! ## The supply (R37, R114, R117) -/

/-- SHED_PULSE_END (R37): the line is released. -/
def execShedPulseEnd (s : State) : Host.Outcome State Fault Refusal :=
  if s.bi.pulse.isRunning then
    let s1 := s.reach s.bi.pulse
    .next { s1 with bi := { s1.bi with pulse := .stopped 0 } }
  else .next s

/-- OVERLOAD_GUARD_END (R117). -/
def execOverloadGuardEnd (s : State) : Host.Outcome State Fault Refusal :=
  if s.sup.guard.isRunning then .next (finish (endGuard (s.reach s.sup.guard))) else .next s

/-- The offline drain ends (R114); a removal under way completes in the same event (R177). No drain runs in a goodbye wait,
whose start has stopped it (R114, R180), and none ends a removal there. -/
def drainEnds (s : State) : State :=
  let s1 := endDrain s
  if s1.inLife .active && s1.lc.phase == .poweringDown && !s1.waiting then completeRemoval s1 else s1

/-- DRAIN_END (R114, R177). -/
def execDrainEnd (s : State) : Host.Outcome State Fault Refusal :=
  if s.sup.drain.isRunning then .next (finish (drainEnds (s.reach s.sup.drain))) else .next s

/-! ## Conversions and tach edges (R121, R143) -/

/-- CONVERSION_END (R121). -/
def execConversionEnd (diode : Option Int) (volts : Int) (s : State) : Host.Outcome State Fault Refusal :=
  if s.sm.conversion.isRunning then
    .next (minOffAtOnce s (finish (convert diode volts (s.reach s.sm.conversion))))
  else .next s

/-- TACH_EDGE (R143): only the fitted rotors of a FAN station are timed. -/
def execTachEdge (rotor moment : Nat) (s : State) : Host.Outcome State Fault Refusal :=
  if s.isRole .fan && decide (rotor < s.lc.keys.rotorsFitted) then
    .next (tachEdge rotor { s with now := max s.now moment })
  else .next s

end Sys2Proof.Machine
end

