-- ==== Sys2Proof/Machine/BusEvents.lean ====
section
/-! DEFINITION. The commands of the slot bus (R17 to R38): idle and the classing of endings, transmissions stopped and
succeeded, MUTE, rate lock, frame errors, shed detections, and the frames received. -/

namespace Sys2Proof.Machine

/-! ## Endings (R25 to R27, R31, R35, R36) -/

/-- How a stopped transmission is classed when the bus next goes idle (R26). -/
def Tx.ending (t : Tx) (k : StopKind) : Ending :=
  if t.shedSeen then .shed
  else
    match k with
    | .arbitration => .arbitration
    | .mismatch => .bitError

/-- The transmitter goes MUTE (R36). -/
def goMute (s : State) : State :=
  ({ s with bi := { s.bi with txState := .mute, mute := s.afterRounds Config.muteRounds } }).latchBus .mute

/-- The goodbye wait that runs ends (R15, R180). -/
def endWait (s : State) : State := if s.lc.restartWait.isRunning then restartNow s else endUnseatedWait s

/-- In REMOVABLE a failure run of 16 empties the LEAVE (R35, R178); the wait of a restart ends with it. -/
def giveUpLeave (s : State) : State :=
  let s1 := { s with
    lc := { s.lc with leaveOutcome := .dropped }
    bi := { s.bi with kinds := { s.bi.kinds with leave := .empty }, failRun := 0 } }
  if s1.waiting then endWait s1 else s1

/-- What follows a bit error: a LEAVE dropped ends its wait; a failure run of 16 mutes the transmitter (R36), which drops
a waiting LEAVE (R15, R180), or gives up the LEAVE of REMOVABLE (R35). In the wait of a restart taken in REMOVABLE the LEAVE
of the removal is still RETRY, so that only a failure run of 16 drops it and ends the wait (log entry 68). -/
def afterBitError (t : Tx) (s : State) : State :=
  if s.inLife .removable then (if Config.failLimit ≤ s.bi.failRun then giveUpLeave s else s)
  else if s.waiting && t.ref == .own .leave && s.bi.kinds.leave.isEmpty then endWait s
  else if s.inLife .active && s.bi.txState == .enabled && decide (Config.failLimit ≤ s.bi.failRun) then
    (if s.waiting then endWait s else goMute s)
  else s

/-- Class the stopped transmission, if there is one (R26). -/
def classEnding (s : State) : State :=
  match s.bi.tx with
  | none => s
  | some t =>
    match t.stopped with
    | none => s
    | some k =>
      match t.ending k with
      | .bitError => afterBitError t (endTx t .bitError s)
      | .success => endTx t .success s
      | .arbitration => endTx t .arbitration s
      | .shed => endTx t .shed s

/-- The station is sending: a transmission that has not stopped, or an own pulse, so no idle is counted (R17). -/
def State.isSending (s : State) : Bool :=
  s.bi.pulse.isRunning ||
    (match s.bi.tx with
     | some t => t.stopped.isNone
     | none => false)

/-- BUS_IDLE (R17, R26, R30): endings are classed; the bus is idle unless another station's SYNC follows at once, the
receiver takes the next frame start (R18, R19, R23), and the lowest PENDING entry may start. -/
def execBusIdle (otherStarts : Bool) (s : State) : Host.Outcome State Fault Refusal :=
  if s.lc.life.isNone || s.inLife .start || s.isSending then .next s
  else
    let s1 := classEnding s
    if s1.lc.life.isNone || s1.inLife .start then .next s1
    else .next (finish { s1 with bi := { s1.bi with idle := !otherStarts, synced := true } })

/-- TRANSMISSION_STOPPED (R25, R26): the line is released; the ending is classed at the next idle (log entry 5). -/
def execTransmissionStopped (how : StopKind) (s : State) : Host.Outcome State Fault Refusal :=
  match s.bi.tx with
  | none => .next s
  | some t =>
    match t.stopped with
    | some _ => .next s
    | none => .next { s with bi := { s.bi with tx := some { t with stopped := some how } } }

/-- MUTE_END (R36). -/
def execMuteEnd (s : State) : Host.Outcome State Fault Refusal :=
  if s.bi.mute.isRunning && s.bi.txState == .mute then
    let s1 := s.reach s.bi.mute
    .next (finish { s1 with bi := { s1.bi with mute := .stopped 0, txState := .enabled, failRun := 0 } })
  else .next s

/-- A success at RO (R54, R55): the self-silence count is 0, the sent mark is set, SELF-STALE clears and PS is told. -/
def heardOurselves (s : State) : State :=
  let s1 := s.withRo { s.ro with selfSilence := 0, sentMark := true, selfStale := false }
  if s.ro.selfStale then staleCleared s1 else s1

/-- A success of the LEAVE at LC (R15, R31, R178, R180). -/
def leaveSent (s : State) : State :=
  if s.waiting then endWait s
  else if s.lc.leaveOutcome = .pending then s.withLc { s.lc with leaveOutcome := .sent }
  else s

/-- TRANSMIT_SUCCESS (R27, R31). -/
def execTransmitSuccess (s : State) : Host.Outcome State Fault Refusal :=
  match s.bi.tx with
  | none => .next s
  | some t =>
    match t.stopped with
    | some _ => .next s
    | none =>
      let s1 := heardOurselves (endTx t .success s)
      .next (finish (if t.ref = .own .leave then leaveSent s1 else s1))

/-! ## Rate lock (R18, R19) -/

/-- The reference counts of six bit times (R19). -/
def Rate.expected : Rate → Nat
  | .k125 => 1200
  | .k250 => 600
  | .k500 => 300
  | .k1000 => 150

/-- M lies in the window of a rate: |M − E| × 100 ≤ 3 × E (R19). -/
def Rate.accepts (r : Rate) (m : Nat) : Bool := decide ((m - r.expected + (r.expected - m)) * 100 ≤ 3 * r.expected)

/-- The rate a measurement locks to, if any. -/
def lockRate (m : Nat) : Option Rate := [Rate.k125, .k250, .k500, .k1000].find? (fun r => r.accepts m)

/-- Rate lock takes a frame start: LISTEN, rate unlocked, an idle counted since the last measurement (R18). -/
def State.measures (s : State) : Bool := s.inLife .listen && s.bi.rate.isNone && s.bi.synced

def overflowed (s : State) : State := s.count fun c => { c with rateOverflows := bump c.rateOverflows }

/-- A measurement of 1,300 or less is decided, a longer one is an overflow (R18, R19). -/
def measured (m : Nat) (s : State) : State :=
  if 1300 < m then overflowed s
  else
    match lockRate m with
    | some r => ({ s with bi := { s.bi with rate := some r } }).latchBus .rateLocked
    | none => s.count fun c => { c with rateMismatches := bump c.rateMismatches }

/-- RATE_MEASUREMENT (R18, R19): whatever the outcome, the next idle is waited for. -/
def execRateMeasurement (m : Nat) (s : State) : Host.Outcome State Fault Refusal :=
  if s.measures then .next (measured m { s with bi := { s.bi with idle := false, synced := false } }) else .next s

/-- RATE_COUNTER_OVERFLOW (R18). -/
def execRateCounterOverflow (s : State) : Host.Outcome State Fault Refusal :=
  if s.measures then .next (overflowed { s with bi := { s.bi with idle := false, synced := false } }) else .next s

/-! ## Errors and pulses (R23, R38) -/

/-- The count of a frame that is not good (R23, R39). -/
def countError (o : RxOutcome) (s : State) : State :=
  match o with
  | .stuffError => s.count fun c => { c with stuffErrors := bump c.stuffErrors }
  | .truncation => s.count fun c => { c with truncations := bump c.truncations }
  | .checkError => s.count fun c => { c with checkErrors := bump c.checkErrors }
  | .good _ | .cutByPulse | .incomplete => s

/-- The bits end in one of the counted errors. -/
def RxOutcome.isError : RxOutcome → Bool
  | .stuffError | .truncation | .checkError => true
  | .good _ | .cutByPulse | .incomplete => false

/-- FRAME_ERROR (R23): the bits read are classed and counted; the frame reaches no block, and the next idle is waited
for. -/
def execFrameError (bits : List Bool) (s : State) : Host.Outcome State Fault Refusal :=
  if !s.receives || !(classify bits).isError then .next s
  else .next (countError (classify bits) { s with bi := { s.bi with idle := false, synced := false } })

/-- A shed detection at PS in ACTIVE: a consumer gives way (R95), FAN and POWER latch SHED (R105, R118). -/
def pulseAtPs (s : State) : State :=
  if s.inLife .active then (if s.consumer then shedAct .pulse s else s.latchShed .pulse) else s

/-- The station watches for pulses: its rate is set, or it listens unlocked (R38). -/
def State.watchesPulses (s : State) : Bool :=
  s.lc.life.isSome && !s.inLife .start && (s.bi.rate.isSome || s.inLife .listen)

/-- SHED_DETECTION (R38): counted; a frame in reception is cut, so that the next idle is waited for (R23); while the rate
is unlocked no frame is in reception, and the measurement that the pulse's falling edge has begun runs on (R18); an own
transmission has stopped and will be classed a shed disturbance (R26). -/
def execShedDetection (s : State) : Host.Outcome State Fault Refusal :=
  if s.watchesPulses then
    let s1 := s.count fun c => { c with shedPulses := bump c.shedPulses }
    let s2 := { s1 with bi := { s1.bi with
      idle := false
      synced := s1.bi.synced && s1.bi.rate.isNone
      tx := s1.bi.tx.map (fun t => { t with stopped := some (t.stopped.getD .mismatch), shedSeen := true }) } }
    .next (minOffAtOnce s (finish (pulseAtPs s2)))
  else .next s

/-! ## Frames received (R24) -/

/-- CLAIM_RECEIVED (R47). -/
def execClaimReceived (src : BitVec 6) (p : List Byte) (s : State) : Host.Outcome State Fault Refusal :=
  .next (minOffAtOnce s (finish (receiveFrame 0 src.toNat p s)))

/-- RELEASE_RECEIVED (R47). -/
def execReleaseReceived (src : BitVec 6) (p : List Byte) (s : State) : Host.Outcome State Fault Refusal :=
  .next (minOffAtOnce s (finish (receiveFrame 1 src.toNat p s)))

/-- CAPACITY_RECEIVED (R48). -/
def execCapacityReceived (src : BitVec 6) (p : List Byte) (s : State) : Host.Outcome State Fault Refusal :=
  .next (minOffAtOnce s (finish (receiveFrame 2 src.toNat p s)))

/-- FANSTAT_RECEIVED (R48). -/
def execFanstatReceived (src : BitVec 6) (p : List Byte) (s : State) : Host.Outcome State Fault Refusal :=
  .next (minOffAtOnce s (finish (receiveFrame 3 src.toNat p s)))

/-- LANE_GRANT_RECEIVED (R167, R168). -/
def execLaneGrantReceived (src : BitVec 6) (p : List Byte) (s : State) : Host.Outcome State Fault Refusal :=
  .next (minOffAtOnce s (finish (receiveFrame 4 src.toNat p s)))

/-- LANE_REQUEST_RECEIVED (R152). -/
def execLaneRequestReceived (src : BitVec 6) (p : List Byte) (s : State) : Host.Outcome State Fault Refusal :=
  .next (minOffAtOnce s (finish (receiveFrame 5 src.toNat p s)))

/-- LANE_RELEASE_RECEIVED (R156, R158). -/
def execLaneReleaseReceived (src : BitVec 6) (p : List Byte) (s : State) : Host.Outcome State Fault Refusal :=
  .next (minOffAtOnce s (finish (receiveFrame 6 src.toNat p s)))

/-- THERMAL_RECEIVED (R136). -/
def execThermalReceived (src : BitVec 6) (p : List Byte) (s : State) : Host.Outcome State Fault Refusal :=
  .next (minOffAtOnce s (finish (receiveFrame 7 src.toNat p s)))

/-- ANNOUNCE_RECEIVED (R43, R45, R46, R159). -/
def execAnnounceReceived (src : BitVec 6) (p : List Byte) (s : State) : Host.Outcome State Fault Refusal :=
  .next (minOffAtOnce s (finish (receiveFrame 8 src.toNat p s)))

/-- JOIN_RECEIVED (R43 to R45). -/
def execJoinReceived (src : BitVec 6) (p : List Byte) (s : State) : Host.Outcome State Fault Refusal :=
  .next (minOffAtOnce s (finish (receiveFrame 9 src.toNat p s)))

/-- LEAVE_RECEIVED (R49). -/
def execLeaveReceived (src : BitVec 6) (p : List Byte) (s : State) : Host.Outcome State Fault Refusal :=
  .next (minOffAtOnce s (finish (receiveFrame 10 src.toNat p s)))

/-- MAIL_RECEIVED (R189, R190). -/
def execMailReceived (src : BitVec 6) (p : List Byte) (s : State) : Host.Outcome State Fault Refusal :=
  .next (minOffAtOnce s (finish (receiveFrame 11 src.toNat p s)))

/-- UNKNOWN_KIND_RECEIVED (R24): a kind from 12 to 15. -/
def execUnknownKindReceived (low : BitVec 2) (src : BitVec 6) (p : List Byte) (s : State) :
    Host.Outcome State Fault Refusal :=
  .next (finish (receiveFrame (12 + low.toNat) src.toNat p s))

/-- STRANGER_SLOT_FRAME (R24): a source slot from 48 to 63. -/
def execStrangerSlotFrame (kind low : BitVec 4) (p : List Byte) (s : State) : Host.Outcome State Fault Refusal :=
  .next (finish (receiveFrame kind.toNat (48 + low.toNat) p s))

end Sys2Proof.Machine
end

