-- ==== Sys2Proof/Machine/Timers.lean ====
section
/-! DEFINITION. The commands of the interval timers, the aging scan and the lane timers (R33, R34, R52 to R55, R139,
R151, R154, R155, R158, R166). -/

namespace Sys2Proof.Machine

/-! ## Timer A (R33) -/

/-- A timer that runs on in phase after an expiry. -/
def Timer.again (t : Timer) (period : Nat) : Timer :=
  match t with
  | .running due => .running (due + period)
  | .stopped left => .stopped left

/-- The posts of an expiry of timer A: ANNOUNCE, the role's report, and JOIN at the identity repeat. -/
def roundPosts (s : State) : State :=
  let s1 := postPeriodic .announce s
  let s2 :=
    match s1.role with
    | some .power => postPeriodic .capacity s1
    | some .fan => postPeriodic .fanstat s1
    | some .blade | some .uplink | none => s1
  let n := satSucc 255 s2.bi.identityCount
  if s2.lc.keys.identityRepeat ≤ n then postPeriodic .join { s2 with bi := { s2.bi with identityCount := 0 } }
  else { s2 with bi := { s2.bi with identityCount := n } }

/-- A round at LM in ACTIVE: the uplink's queue (R151, R154), the blade's reposts (R166). -/
def roundLanes (s : State) : State :=
  if s.inLife .active then
    match s.role with
    | some .uplink => arbiterRound s
    | some .blade => repostRequests (s.lb.map (·.1)) s
    | some .fan | some .power | none => s
  else s

/-- ROUND (R33, R52): timer A expires and runs on; the posts, the round count, LM's round. -/
def execRound (s : State) : Host.Outcome State Fault Refusal :=
  if s.bi.timerA.isRunning then
    let s1 := s.reach s.bi.timerA
    let s2 := { s1 with bi := { s1.bi with timerA := s1.bi.timerA.again s1.roundTicks } }
    let s3 := roundPosts s2
    let s4 := s3.withRo { s3.ro with roundCount := (s3.ro.roundCount + 1) % 65536 }
    .next (minOffAtOnce s (finish (roundLanes s4)))
  else .next s

/-! ## The aging scan (R52 to R55) -/

/-- SELF-STALE is set (R55): PS is told (R102), BUS is latched. -/
def goStale (s : State) : State :=
  let s1 := s.withRo { s.ro with selfStale := true }
  (if s1.consumer then stalePath s1 else s1).latchBus .selfStale

/-- The visit to the own slot (R54): judged from the marks in ACTIVE; the marks are cleared. -/
def visitSelf (s : State) : State :=
  let rises := s.inLife .active && !s.ro.sentMark && s.ro.heardMark
  let n := if rises then satSucc 15 s.ro.selfSilence else s.ro.selfSilence
  let s1 := s.withRo { s.ro with selfSilence := n, sentMark := false, heardMark := false }
  if rises && !s.ro.selfStale && decide (s.lc.keys.retention ≤ n) then goStale s1 else s1

/-- The visit to another slot (R53). -/
def visitOther (slot : Nat) (s : State) : State :=
  match slotGet s.ro.entries slot with
  | none => s
  | some e =>
    let n := satSucc 15 e.silence
    if s.lc.keys.retention ≤ n then removeEntry .expired slot e s else s.putEntry slot { e with silence := n }

/-- The moment of the pointer's next visit: slot s falls s/48 of a round after the round's start (R52). -/
def State.visitDue (s : State) : Nat := s.ro.scanStart + s.ro.pointer * s.roundTicks / Config.slots

/-- The pointer moves on; after slot 47 the next round of the scan begins (R52). -/
def advancePointer (s : State) : State :=
  if s.ro.pointer + 1 < Config.slots then s.withRo { s.ro with pointer := s.ro.pointer + 1 }
  else s.withRo { s.ro with pointer := 0, scanStart := s.ro.scanStart + s.roundTicks }

/-- AGING_VISIT (R52 to R55). -/
def execAgingVisit (s : State) : Host.Outcome State Fault Refusal :=
  if s.ro.scanning then
    let slot := s.ro.pointer
    let s1 := advancePointer { s with now := max s.now s.visitDue }
    .next (minOffAtOnce s (finish (if slot = s1.ownSlot then visitSelf s1 else visitOther slot s1)))
  else .next s

/-! ## Timer B (R34) -/

/-- A beat by the role: FC's in FAN role (R139), THERMAL in the others while there is an own demand (R133). -/
def beatTaken (s : State) : State :=
  if s.isRole .fan then fanBeat s
  else if s.sm.ownDemand.isSome then postPeriodic .thermal s
  else s

/-- BEAT (R34, R133, R139). -/
def execBeat (s : State) : Host.Outcome State Fault Refusal :=
  if s.bi.timerB.isRunning then
    let s1 := s.reach s.bi.timerB
    .next (finish (beatTaken { s1 with bi := { s1.bi with timerB := s1.bi.timerB.again s1.beatTicks } }))
  else .next s

/-! ## Lane timers -/

/-- The raise hold-off of the reservation in flight. -/
def State.reservationHold (s : State) : Timer :=
  match s.lm.reservation with
  | some r => r.hold
  | none => .stopped 0

/-- RESERVATION_HOLD_OFF_END (R155). -/
def execReservationHoldOffEnd (s : State) : Host.Outcome State Fault Refusal :=
  if s.reservationHold.isRunning then
    .next (minOffAtOnce s (finish (reservationEnds (s.reach s.reservationHold))))
  else .next s

/-- The drain of a lane. -/
def State.laneDrain (s : State) (lane : Nat) : Timer :=
  match slotGet s.lm.lanes lane with
  | some (.draining _ d) => d
  | some (.reserved _) | some (.granted _) | some .faulted | none => .stopped 0

/-- A lane's drain ends (R158); lanes released together end together (log entry 30). -/
def laneDrainEnds (d : Timer) (s : State) : State := arbiter (rewriteLanes (s.freeWhere (LaneUse.drainsAt d)))

/-- LANE_DRAIN_END (R158). -/
def execLaneDrainEnd (lane : Nat) (s : State) : Host.Outcome State Fault Refusal :=
  if (s.laneDrain lane).isRunning then
    .next (minOffAtOnce s (finish (laneDrainEnds (s.laneDrain lane) (s.reach (s.laneDrain lane)))))
  else .next s

/-- The reply window of a record. -/
def State.replyWindow (s : State) (uplink : Nat) : Timer :=
  match slotGet s.lb uplink with
  | some r => r.window
  | none => .stopped 0

/-- REPLY_WINDOW_END (R166). -/
def execReplyWindowEnd (uplink : Nat) (s : State) : Host.Outcome State Fault Refusal :=
  if (s.replyWindow uplink).isRunning then .next (finish (replyTimeout uplink (s.reach (s.replyWindow uplink))))
  else .next s

end Sys2Proof.Machine
end

