-- ==== Sys2Proof/Machine/PortEvents.lean ====
section
/-! DEFINITION. The commands of the local port's transaction itself (R182 to R184): chip select, packets refused, taken
and empty, FETCH. -/

namespace Sys2Proof.Machine

/-- COMMAND becomes IDLE when a packet closes with nothing taken. -/
def PortPhase.closed : PortPhase → PortPhase
  | .command => .idle
  | .idle => .idle
  | .executing p => .executing p

/-- CHIP_SELECT_ASSERTED (R182); ignored while the port does not work (R194). -/
def execChipSelectAsserted (s : State) : Host.Outcome State Fault Refusal :=
  let s1 := { s with pins := { s.pins with chipSelect := true, unheard := !s.portWorks } }
  if s1.portWorks && s1.lp.phase == .idle then .next (s1.withLp { s1.lp with phase := .command }) else .next s1

/-- A packet other than FETCH is judged: the port heeds it and nothing executes (R182, R183). -/
def State.judgesPackets (s : State) : Bool := s.heedsPacket && !s.lp.phase.isExecuting

/-- A packet that passes is taken: it is judged, and no restart waits (R14, R183). -/
def State.takesPackets (s : State) : Bool := s.judgesPackets && !s.lc.restartWait.isRunning

/-- A packet other than FETCH closes: chip select is released; where the port heeds it, SDO was recessive-high through its
bytes and COMMAND is over, while a command executes it goes on (R182, R183). -/
def packetCloses (packet : List Byte) (s : State) : State :=
  if s.heedsPacket then
    let s1 := drivenHigh packet.length (released s)
    s1.withLp { s1.lp with phase := s1.lp.phase.closed }
  else released s

/-- COMMAND_INVALID (R182): the refusal replaces the result buffer, in the wait of a restart too where a local reset has
taken the phase from EXECUTING (log entry 71); while a command executes, nothing changes. -/
def execCommandInvalid (packet : List Byte) (partialByte : Bool) (s : State) : Host.Outcome State Fault Refusal :=
  if packetRefused packet partialByte then
    let s1 := packetCloses packet s
    if s.judgesPackets then
      .next (s1.withLp { s1.lp with result := some [Status.invalid.code] })
    else .next s1
  else .next (released s)

/-- PACKET_TAKEN (R183): the result buffer is discarded and the phase becomes EXECUTING. In the wait of a restart it is not
taken (R14; log entry 71). -/
def execPacketTaken (packet : List Byte) (s : State) : Host.Outcome State Fault Refusal :=
  if (decodePacket packet).isSome then
    let s1 := packetCloses packet s
    if s.takesPackets then .next (s1.withLp { s1.lp with result := none, phase := .executing packet })
    else .next s1
  else .next (released s)

/-- EMPTY_RELEASE (R182): the phase returns to what it was. -/
def execEmptyRelease (s : State) : Host.Outcome State Fault Refusal :=
  let s1 := released s
  if s.heedsPacket then .next (s1.withLp { s1.lp with phase := s1.lp.phase.closed }) else .next s1

/-- FETCH (R184): neither the buffer nor the transaction changes. -/
def execFetch (count : Nat) (s : State) : Host.Outcome State Fault Refusal :=
  let s1 := released s
  if s.heedsPacket then
    .next (s1.withLp { s1.lp with sdo := s1.fetchBytes count, phase := s1.lp.phase.closed })
  else .next s1

end Sys2Proof.Machine
end

