-- ==== Sys2Proof/Machine/ConfigCommands.lean ====
section
/-! DEFINITION. The commands that set the station up and read what it noted: SENSE, SET_MASK, CONFIGURE, READ_CONFIG, GO,
RESTART, SET_LIMITS, READ_MONITOR, READ_BUS (R8, R10, R14, R39, R123, R134, R187, R188). -/

namespace Sys2Proof.Machine

/-! ## SENSE and SET_MASK (R187, R188) -/

/-- The events a SENSE leaves latched, of those that are latched: ROSTER while the change queue holds a record, MAIL at
the threshold, MAIL_OVERFLOW while the mark is set (R187). -/
def State.stillLatched (s : State) : Half :=
  s.lp.latched &&&
    ((if s.ro.changes.isEmpty then 0 else Event.roster.word) |||
      (if s.lc.keys.mailThreshold ≤ s.lp.mailQueue.length then Event.mail.word else 0) |||
      (if s.lp.overflow then Event.mailOverflow.word else 0))

/-- What SENSE clears: events, their causes, and SM's latched statuses (R127, R187). -/
def sensed (s : State) : State :=
  (clearLatched s).withLp { s.lp with
    latched := s.stillLatched
    powerCause := .request
    shedCauses := 0
    raiseCauses := 0
    fanCauses := 0
    busCauses := 0
    ejectCauses := 0
    laneOutcome := .noOutcome
    laneSlot := 0 }

/-- SENSE (R187). -/
def execSense (s : State) : Host.Outcome State Fault Refusal :=
  .next (portCommand .sense .sense everyRole noCheck (fun x => (sensed x, x.senseFields)) s)

/-- SET_MASK (R188): unused positions are ignored. -/
def execSetMask (w : Half) (s : State) : Host.Outcome State Fault Refusal :=
  .next (portCommand (.setMask w) .sense everyRole noCheck
    (fun x => (x.withLp { x.lp with mask := w &&& allEvents }, [])) s)

/-! ## CONFIGURE (R10, R197) -/

/-- A value in a range gives the changed keys. -/
def inRange (lo hi v : Nat) (k : Keys) : Option Keys := if lo ≤ v ∧ v ≤ hi then some k else none

/-- The redundancy modes by code. -/
def redundancyOfCode (v : Nat) : Option Redundancy :=
  match v with
  | 0 => some .noRedundancy
  | 1 => some .nPlusOne
  | 2 => some .halfFeeds
  | _ => none

/-- The demand target of a 16-bit signed value: 0x7FFF none, else −40 to 150 (R197). -/
def targetOfValue (v : Nat) : Option (Option Int) :=
  if v = 0x7FFF then some none
  else
    let t := (BitVec.ofNat 16 v).toInt
    if v < 65536 ∧ -40 ≤ t ∧ t ≤ 150 then some (some t) else none

/-- The keys with one key set to a value, none when the value lies outside the key's range (the Range column of the
configuration table; the joint checks of R10). -/
def setKey (k : Keys) (key : ConfigKey) (ch v : Nat) : Option Keys :=
  match key with
  | .nA => inRange 1 255 v { k with nA := v }
  | .nB => inRange 0 255 v { k with nB := v }
  | .retention => inRange 2 15 v { k with retention := v }
  | .identityRepeat => inRange 1 255 v { k with identityRepeat := v }
  | .typeCode => inRange 0 65535 v { k with typeCode := v }
  | .revision => inRange 0 255 v { k with revision := v }
  | .serial => some { k with serial := BitVec.ofNat 64 v }
  | .priority => inRange 0 7 v { k with priority := v }
  | .requested => inRange (max 1 k.floorAmount) 400 v { k with requested := v }
  | .floorAmount => inRange 0 k.requested v { k with floorAmount := v }
  | .fanClaim => inRange 1 100 v { k with fanClaim := v }
  | .baseAmount => if v + 16 * k.laneCost ≤ 400 then some { k with baseAmount := v } else none
  | .laneCost => if v ≤ 40 ∧ k.baseAmount + 16 * v ≤ 400 then some { k with laneCost := v } else none
  | .holdOff => inRange 1 8 v { k with holdOff := v }
  | .shedHoldoff => inRange 1 64 v { k with shedHoldoff := v }
  | .minOn => inRange 0 60000 v { k with minOn := v }
  | .minOff => inRange 0 60000 v { k with minOff := v }
  | .pgWindow => inRange 10 5000 v { k with pgWindow := v }
  | .redundancy => (redundancyOfCode v).map (fun r => { k with redundancy := r })
  | .derateStep => inRange 0 15 v { k with derateStep := v }
  | .expectedFans => inRange 0 8 v { k with expectedFans := v }
  | .reserve => inRange 0 1000 v { k with reserve := v }
  | .rating => inRange 1 400 v { k with rating := v }
  | .rotorsFitted => inRange 1 4 v { k with rotorsFitted := v }
  | .tachLimit => inRange 1000 60000 v { k with tachLimit := v }
  | .sustainLimit => inRange 1 65535 v { k with sustainLimit := v }
  | .ownDemandCounts => inRange 0 1 v { k with ownDemandCounts := v == 1 }
  | .queueWait => inRange 1 255 v { k with queueWait := v }
  | .drain => inRange 0 15 v { k with drain := v }
  | .replyWindow => inRange 1 63 v { k with replyWindow := v }
  | .ejectGrace => inRange 0 60000 v { k with ejectGrace := v }
  | .mailBroadcast => inRange 0 1 v { k with mailBroadcast := v == 1 }
  | .mailThreshold => inRange 1 8 v { k with mailThreshold := v }
  | .demandTarget =>
    if ch < 4 then (targetOfValue v).map (fun t => { k with demandTarget := k.demandTarget.put ch t }) else none
  | .demandSpan => if ch < 4 then inRange 1 40 v { k with demandSpan := k.demandSpan.put ch v } else none

/-- The keys from which BU computes (R73). -/
def Keys.budgetPart (k : Keys) : Redundancy × Nat × Nat × Nat := (k.redundancy, k.derateStep, k.expectedFans, k.reserve)

/-- A key has been set: a changed budget key is followed by a recompute (R73), a changed target or span by a new channel
demand (R131). -/
def configured (k : Keys) (ch : Nat) (s : State) : State :=
  let s1 := s.withLc { s.lc with keys := k }
  let s2 := if k.budgetPart = s.lc.keys.budgetPart then s1 else noticed recompute s1
  if k.demandTarget = s.lc.keys.demandTarget ∧ k.demandSpan = s.lc.keys.demandSpan then s2 else redemand ch s2

/-- CONFIGURE is open in LISTEN and READY (R10). -/
def State.open? (s : State) : Bool := s.inLife .listen || s.inLife .ready

/-- The checks of CONFIGURE after gate and role: STATE, then RANGE (R10; log entry 22). -/
def configureCheck (key : ConfigKey) (ch v : Nat) (s : State) : Option Status :=
  orElse (needs s.open?) (if (setKey s.lc.keys key ch v).isSome then none else some .range)

/-- CONFIGURE (R10, R197). -/
def execConfigure (key : ConfigKey) (channel : Byte) (value : Word64) (s : State) : Host.Outcome State Fault Refusal :=
  .next (portCommand (.configure key channel value) .other (keyOfRole key)
    (configureCheck key channel.toNat value.toNat)
    (fun x => (configured ((setKey x.lc.keys key channel.toNat value.toNat).getD x.lc.keys) channel.toNat x, [])) s)

/-- READ_CONFIG (R10, R171). -/
def execReadConfig (s : State) : Host.Outcome State Fault Refusal :=
  .next (portCommand .readConfig .read everyRole noCheck (fun x => (x, x.configFields)) s)

/-! ## GO and RESTART (R8, R14) -/

/-- GO taken: remembered in LISTEN, ACTIVE entered in READY (R8). -/
def goTaken (s : State) : State :=
  if s.inLife .ready then enterActive s else s.withLc { s.lc with goRemembered := true }

/-- GO (R8, R11). -/
def execGo (s : State) : Host.Outcome State Fault Refusal :=
  .next (portCommand .go .other everyRole (fun x => needs x.open?) (fun x => (goTaken x, [])) s)

/-- Where a RESTART is accepted (R14): a consumer in ACTIVE or REMOVABLE only in OFF or FAULT. -/
def restartCheck (s : State) : Option Status :=
  needs (!(s.consumer && s.activeOrRemovable) || s.ps.power == .off || s.ps.power == .fault)

/-- The accepted RESTART executes until START is entered (R15, R183). -/
def restartPhase (path : PortPath) (s : State) : State :=
  match path with
  | .lost => s.withLp { s.lp with lostCommands := s.lp.lostCommands.tail }
  | .executing | .direct => s.withLp { s.lp with result := none, phase := .executing [6] }

/-- RESTART (R14, R15). -/
def execRestart (s : State) : Host.Outcome State Fault Refusal :=
  match s.portPath .restart with
  | none => .next s
  | some path =>
    let s0 := s.closing .restart path
    match s0.judge .restart everyRole restartCheck with
    | some st => .next (finish (s0.place path [st.code]))
    | none => .next (finish (beginRestart (restartPhase path s0)))

/-! ## The monitor (R123, R134) -/

/-- The check of SET_LIMITS: life state, then a channel of the eight and a consistent set (R123). -/
def limitsCheck (ch : Nat) (v0 v1 v2 v3 : Half) (s : State) : Option Status :=
  orElse (needs s.takesSettings)
    (if ch < 4 then (if tLimitsFit v0.toInt v1.toInt v2.toInt v3.toInt then none else some .range)
     else if ch < 8 then (if vLimitsFit v0.toInt v1.toInt then none else some .range)
     else some .range)

/-- A consistent set replaces the channel's limits as a whole (R123). -/
def limitsSet (ch : Nat) (v0 v1 v2 v3 : Half) (s : State) : State :=
  if ch < 4 then setTLimits ch v0.toInt v1.toInt v2.toInt v3.toInt s else setVLimits (ch - 4) v0.toInt v1.toInt s

/-- SET_LIMITS (R123, R124). -/
def execSetLimits (channel : Byte) (v0 v1 v2 v3 : Half) (s : State) : Host.Outcome State Fault Refusal :=
  .next (portCommand (.setLimits channel v0 v1 v2 v3) .other everyRole (limitsCheck channel.toNat v0 v1 v2 v3)
    (fun x => (limitsSet channel.toNat v0 v1 v2 v3 x, [])) s)

/-- A check that a number lies below a bound. -/
def below (n bound : Nat) : Option Status := if n < bound then none else some .range

/-- READ_MONITOR (R134). -/
def execReadMonitor (channel : Byte) (s : State) : Host.Outcome State Fault Refusal :=
  .next (portCommand (.readMonitor channel) .read everyRole (fun _ => below channel.toNat 8)
    (fun x => (x, x.monitorFields channel.toNat)) s)

/-! ## READ_BUS (R39) -/

/-- The counters are set to 0 when the clear flag is set. -/
def statsCleared (flags : Byte) (s : State) : State :=
  if flags.getLsbD 0 then { s with bi := { s.bi with stats := {} } } else s

/-- READ_BUS (R39). -/
def execReadBus (flags : Byte) (s : State) : Host.Outcome State Fault Refusal :=
  .next (portCommand (.readBus flags) .read everyRole noCheck (fun x => (statsCleared flags x, x.busFields)) s)

end Sys2Proof.Machine
end

