-- ==== Sys2Proof/Machine/PowerCommands.lean ====
section
/-! DEFINITION. The power commands of the local port and the reads of power, budget, claims, roster, changes and fan
(R58, R59, R77, R78, R84, R87, R90 to R92, R106, R113, R115, R119, R148, R175, R177, R178). -/

namespace Sys2Proof.Machine

/-! ## POWER_ON (R84, R115, R174, R177, R178) -/

/-- STATE: outside ACTIVE, while a removal is under way, and for a consumer in FAULT. -/
def powerOnCheck (s : State) : Option Status :=
  needs (s.inLife .active && !s.ejecting && !(s.consumer && s.ps.power == .fault))

/-- Pending-on is set and POWER latched with REQUEST (R84, R106). -/
def pendOn (s : State) : State := (s.withPs { s.ps with pendingOn := true }).latchPower .request

/-- POWER_ON at a consumer (R84). -/
def consumerOn (s : State) : State :=
  match s.ps.power with
  | .off => if s.ro.selfStale then pendOn s else enterClaiming s
  | .stopping | .cooldown => pendOn s
  | .claiming | .enabling | .on | .fault => s

/-- POWER_ON (R84, R115). In FAN role it is refused with ROLE in REMOVABLE too (log entry 58). -/
def execPowerOn (s : State) : Host.Outcome State Fault Refusal :=
  .next (portCommand .powerOn .other notFan powerOnCheck
    (fun x => (if x.isRole .power then supplyOn x else consumerOn x, [])) s)

/-! ## POWER_OFF (R87, R113, R175, R177, R178) -/

/-- POWER_OFF at a consumer in ACTIVE (R87). Where it only clears pending-on it latches no POWER event (log entry 61). -/
def consumerOff (s : State) : State :=
  match s.ps.power with
  | .off | .stopping | .cooldown => s.withPs { s.ps with pendingOn := false }
  | .claiming => claimingOff s
  | .enabling | .on => if s.lc.phase = .grace then endGrace s else powerOffPath s
  | .fault => s

/-- POWER_OFF by life state and role: in REMOVABLE and in POWERING_DOWN it changes nothing (R177, R178), and latches no
POWER event at a supply found OFFLINE (log entry 53). -/
def powerOffTaken (s : State) : State :=
  if s.inLife .removable || s.lc.phase == .poweringDown then s
  else if s.isRole .power then supplyOff s
  else consumerOff s

/-- POWER_OFF. -/
def execPowerOff (s : State) : Host.Outcome State Fault Refusal :=
  .next (minOffAtOnce s
    (portCommand .powerOff .other notFan (fun x => needs x.activeOrRemovable) (fun x => (powerOffTaken x, [])) s))

/-! ## SET_LEVEL (R91) -/

/-- A step down by request leaves the own claim to be judged as any write is (R93). -/
def judgedWrite (s : State) : State := if s.ownMark then s else lossAtRest s

/-- The voluntary step down in ENABLING or ON at FULL: an uplink's lanes are given up as for a shed (R91, R160). -/
def stepDown (s : State) : State :=
  let s1 := ownShed (stopRaise (s.withPs { s.ps with level := .floor }))
  judgedWrite ((writeClaim s1.floorAmount s1).latchPower .request)

/-- SET_LEVEL FLOOR (R91). Where only the desired level changes no POWER event is latched (log entry 61). -/
def levelFloor (s : State) : State :=
  let s0 := s.withPs { s.ps with desired := .floor }
  match s0.ps.power, s0.ps.level with
  | .claiming, .full =>
    let s1 := s0.withPs { s0.ps with level := .floor }
    (restartHoldOff (writeClaim s1.floorAmount s1)).latchPower .request
  | .enabling, .full | .on, .full => stepDown s0
  | .on, .floor =>
    if s0.ps.raise = .level then
      let s1 := stopRaise s0
      judgedWrite (writeClaim s1.floorAmount s1)
    else s0
  | .off, _ | .claiming, .floor | .enabling, .floor | .stopping, _ | .cooldown, _ | .fault, _ => s0

/-- SET_LEVEL FULL: the desired level, and a look at the raise conditions (R91, R99). -/
def levelFull (s : State) : State := lookRaise (s.withPs { s.ps with desired := .full })

/-- SET_LEVEL (R91, R197). -/
def execSetLevel (level : Byte) (s : State) : Host.Outcome State Fault Refusal :=
  .next (minOffAtOnce s (portCommand (.setLevel level) .other consumers
    (fun x => orElse (needs x.activeOrRemovable) (below level.toNat 2))
    (fun x => (if level = 0 then levelFull x else levelFloor x, [])) s))

/-! ## SET_AMOUNT (R92, R100) -/

/-- The amount taken: into 1 to 400, then raised to the floor amount, or to 1 when that is 0. -/
def State.amountTaken (s : State) (raw : Nat) : Nat := max (clampNat 1 400 raw) (max 1 s.lc.keys.floorAmount)

/-- STATE: outside ACTIVE and REMOVABLE, during a raise, and where R92 and R100 refuse a rise. -/
def amountCheck (raw : Nat) (s : State) : Option Status :=
  let rise := decide (s.ps.working < s.amountTaken raw)
  let full := s.ps.level == .full
  needs (s.activeOrRemovable && s.ps.raise == .noRaise &&
    !(rise && full && (s.ps.power == .enabling ||
      (s.ps.power == .on && (s.thermalCritical || s.ps.shedHold.isRunning)))))

/-- The AMOUNT raise starts; one not admitted at its write fails at once (R100). -/
def startAmountRaise (n : Nat) (s : State) : State :=
  let s1 := writeClaim n
    (s.withPs { s.ps with raise := .amount n, raiseHold := s.afterRounds s.lc.keys.holdOff })
  if s1.ownMark then s1 else failAmountRaise s1

/-- The new amount by power state and level (R92). -/
def amountSet (n : Nat) (s : State) : State :=
  let stored := s.withPs { s.ps with working := n }
  match s.ps.power, s.ps.level with
  | .claiming, .full => restartHoldOff (writeClaim n stored)
  | .enabling, .full => writeClaim n stored
  | .on, .full => if s.ps.working < n then startAmountRaise n s else writeClaim n stored
  | .off, _ | .claiming, .floor | .enabling, .floor | .on, .floor | .stopping, _ | .cooldown, _ | .fault, _ => stored

/-- SET_AMOUNT (R92): the answer reports the amount taken. -/
def execSetAmount (amount : Half) (s : State) : Host.Outcome State Fault Refusal :=
  .next (minOffAtOnce s (portCommand (.setAmount amount) .other bladeOnly (amountCheck amount.toNat)
    (fun x => (amountSet (x.amountTaken amount.toNat) x, bytes2 (x.amountTaken amount.toNat))) s))

/-! ## CLEAR_FAULT (R90) -/

/-- STATE: outside ACTIVE and REMOVABLE, and in FAULT while the cause stands. -/
def clearFaultCheck (s : State) : Option Status :=
  needs (s.activeOrRemovable &&
    !(s.ps.power == .fault &&
      ((s.ps.reason == .overtemp && s.shutdownHeld) || (s.ps.reason == .unseated && !s.pins.seated))))

/-- FAULT becomes COOLDOWN, which ends at its entry when min-off has elapsed since the fall already recorded (R89); in any
other power state nothing changes. -/
def faultCleared (s : State) : State :=
  if s.ps.power = .fault then
    let s1 := enterCooldown s.ps.reason (s.latchPower .clear)
    if s1.minOffElapsed then endCooldown s1 else s1
  else s

/-- CLEAR_FAULT. -/
def execClearFault (s : State) : Host.Outcome State Fault Refusal :=
  .next (portCommand .clearFault .other consumers clearFaultCheck (fun x => (faultCleared x, [])) s)

/-! ## Reads -/

/-- READ_POWER (R106, R119). -/
def execReadPower (s : State) : Host.Outcome State Fault Refusal :=
  .next (portCommand .readPower .read everyRole noCheck (fun x => (x, x.powerFields)) s)

/-- READ_BUDGET (R77). -/
def execReadBudget (s : State) : Host.Outcome State Fault Refusal :=
  .next (portCommand .readBudget .read everyRole noCheck (fun x => (x, x.budgetFields)) s)

/-- READ_CLAIMS (R78). -/
def execReadClaims (s : State) : Host.Outcome State Fault Refusal :=
  .next (portCommand .readClaims .read everyRole noCheck (fun x => (x, x.claimsFields)) s)

/-- READ_ROSTER (R59). -/
def execReadRoster (slot : Byte) (s : State) : Host.Outcome State Fault Refusal :=
  .next (portCommand (.readRoster slot) .read everyRole (fun _ => below slot.toNat Config.slots)
    (fun x => (x, x.rosterFields slot.toNat)) s)

/-- The records READ_CHANGES returns are removed and the lost count is set to 0 (R58). -/
def changesTaken (s : State) : State :=
  s.withRo { s.ro with changes := s.ro.changes.drop Config.changesRead, lost := 0 }

/-- READ_CHANGES (R58). -/
def execReadChanges (s : State) : Host.Outcome State Fault Refusal :=
  .next (portCommand .readChanges .read everyRole noCheck (fun x => (changesTaken x, x.changesFields)) s)

/-- READ_FAN (R148). -/
def execReadFan (s : State) : Host.Outcome State Fault Refusal :=
  .next (portCommand .readFan .read fanOnly noCheck (fun x => (x, x.fanFields)) s)

end Sys2Proof.Machine
end

