-- ==== Sys2Proof/Machine/LaneCommands.lean ====
section
/-! DEFINITION. The lane and mail commands of the local port (R157, R165, R169, R170, R190 to R193). -/

namespace Sys2Proof.Machine

/-! ## Lanes -/

/-- The roster holds a slot PRESENT with a role. -/
def State.presentAs (s : State) (slot : Nat) (r : Role) : Bool :=
  match s.entryOf slot with
  | some e => e.role == r
  | none => false

/-- The pending count of a slot's record. -/
def State.pendingAt (s : State) (uplink : Nat) : Nat :=
  match slotGet s.lb uplink with
  | some r => r.pending
  | none => 0

/-- A record for the slot exists or is free (R165, R169). -/
def State.recordFor (s : State) (uplink : Nat) : Bool := (slotGet s.lb uplink).isSome || s.recordRoom

/-- The judgement of REQUEST_LANES in its order (R165). -/
def requestCheck (u n : Nat) (s : State) : Option Status :=
  if !(s.inLife .active && s.ps.power == .on) then some .state
  else if Config.slots ≤ u ∨ u = s.ownSlot then some .range
  else if n = 0 then some .range
  else if !s.presentAs u .uplink then some .state
  else if 0 < s.pendingAt u then some .state
  else if !s.recordFor u then some .full
  else none

/-- REQUEST_LANES (R165): the answer reports the count taken. -/
def execRequestLanes (uplink count : Byte) (s : State) : Host.Outcome State Fault Refusal :=
  .next (portCommand (.requestLanes uplink count) .other bladeOnly (requestCheck uplink.toNat count.toNat)
    (fun x => (askLanes uplink.toNat (min count.toNat Config.lanesPerSlot) x,
               [byte (min count.toNat Config.lanesPerSlot)])) s)

/-- The judgement of RELEASE_LANES (R169). -/
def releaseCheck (u : Nat) (s : State) : Option Status :=
  if !s.inLife .active then some .state
  else if Config.slots ≤ u then some .range
  else if !s.recordFor u then some .full
  else none

/-- RELEASE_LANES (R169). -/
def execReleaseLanes (uplink : Byte) (s : State) : Host.Outcome State Fault Refusal :=
  .next (portCommand (.releaseLanes uplink) .other bladeOnly (releaseCheck uplink.toNat)
    (fun x => (giveLanes uplink.toNat x, [])) s)

def lanesRole : Role → Bool
  | .blade | .uplink => true
  | .fan | .power => false

/-- READ_LANES (R170). -/
def execReadLanes (s : State) : Host.Outcome State Fault Refusal :=
  .next (portCommand .readLanes .read lanesRole noCheck (fun x => (x, x.lanesFields)) s)

/-- SET_LANE_FAULT (R157, R197). -/
def execSetLaneFault (lane value : Byte) (s : State) : Host.Outcome State Fault Refusal :=
  .next (minOffAtOnce s (portCommand (.setLaneFault lane value) .other uplinkOnly
    (fun x => orElse (needs x.takesSettings) (orElse (below lane.toNat Config.lanes) (below value.toNat 2)))
    (fun x => (if value = 1 then laneFaultOn lane.toNat x else laneFaultOff lane.toNat x, [])) s))

/-! ## Mail sent (R192, R193) -/

def OutBox.inUse (b : OutBox) : Bool := b.status == .pending || b.status == .sending

/-- A destination mail may have: a slot of the chassis other than the own, or 63 for all. -/
def State.mailDest (s : State) (dest : Nat) : Bool := dest == 63 || (decide (dest < Config.slots) && dest != s.ownSlot)

/-- Both outbox records, or both entries of the mail outbox, are in use (R29, R192). -/
def State.mailFull (s : State) : Bool :=
  (s.lp.box0.inUse && s.lp.box1.inUse) || decide (Config.mailOutbox ≤ s.bi.mails.length)

/-- The judgement of SEND_MAIL (R192, R197). -/
def sendCheck (dest mode : Nat) (s : State) : Option Status :=
  if !s.inLife .active then some .state
  else if !s.mailDest dest ∨ 1 < mode then some .range
  else if s.mailFull then some .full
  else none

/-- The record a SEND_MAIL takes: an unused one, record 0 of two unused, else the one whose final status is older (log entry
19). -/
def LocalPort.freeBox (p : LocalPort) : Nat :=
  if p.box0.status = .unused then 0
  else if p.box1.status = .unused then 1
  else if p.box0.inUse then 1
  else if p.box1.inUse then 0
  else 1 - p.lastFinal

/-- SEND_MAIL taken: the record gets the next tag with status PENDING, the content is posted. -/
def mailPosted (dest : Nat) (mode : Mode) (data : List Byte) (s : State) : State :=
  let box := s.lp.freeBox
  let rec' : OutBox := { tag := s.lp.nextTag, status := .pending }
  { s with
    lp := { s.lp with
      box0 := if box = 0 then rec' else s.lp.box0
      box1 := if box = 0 then s.lp.box1 else rec'
      nextTag := (s.lp.nextTag + 1) % 256 }
    bi := { s.bi with
      mails := s.bi.mails ++ [{ box := box, dest := dest, data := data.take 11, mode := mode, sending := false }] } }

/-- SEND_MAIL (R192): the answer carries the tag. -/
def execSendMail (dest mode : Byte) (data : List Byte) (s : State) : Host.Outcome State Fault Refusal :=
  .next (portCommand (.sendMail dest mode data) .other everyRole (sendCheck dest.toNat mode.toNat)
    (fun x => (mailPosted dest.toNat (if mode = 0 then .retry else .single) data x, [byte x.lp.nextTag])) s)

/-- The record that holds a tag. That both may hold it is left open (R192, R193), and which is named then is the model's
choice (log entry 19): one in use before one with a final status, record 0 of two in use, record 1 of two final ones. -/
def LocalPort.boxOf (p : LocalPort) (tag : Nat) : Option Nat :=
  let m0 := p.box0.status != .unused && p.box0.tag == tag
  let m1 := p.box1.status != .unused && p.box1.tag == tag
  if m0 && (p.box0.inUse || !m1) then some 0 else if m1 then some 1 else none

/-- The status of a record. -/
def LocalPort.statusOf (p : LocalPort) (box : Nat) : MailStatus := if box = 0 then p.box0.status else p.box1.status

/-- The judgement of ABORT_MAIL (R193). -/
def abortCheck (tag : Nat) (s : State) : Option Status :=
  match s.lp.boxOf tag with
  | none => some .range
  | some b => if s.lp.statusOf b = .sending then some .state else none

/-- ABORT_MAIL taken: a PENDING entry goes, the other keeps its place; a final status stays. -/
def mailAborted (tag : Nat) (s : State) : State :=
  match s.lp.boxOf tag with
  | none => s
  | some b =>
    if s.lp.statusOf b = .pending then
      ({ s with bi := { s.bi with mails := s.bi.mails.filter (fun m => m.box != b) } }).setBox b .aborted
    else s

/-- The status ABORT_MAIL reports, as it stands after the command. -/
def abortFields (tag : Nat) (s : State) : List Byte :=
  match s.lp.boxOf tag with
  | none => []
  | some b => [byte ((mailAborted tag s).lp.statusOf b).code]

/-- ABORT_MAIL (R193). -/
def execAbortMail (tag : Byte) (s : State) : Host.Outcome State Fault Refusal :=
  .next (portCommand (.abortMail tag) .other everyRole (abortCheck tag.toNat)
    (fun x => (mailAborted tag.toNat x, abortFields tag.toNat x)) s)

/-! ## Mail received (R190, R191) -/

/-- The head of the receive queue is removed (R191). -/
def mailRead (s : State) : State := s.withLp { s.lp with mailQueue := s.lp.mailQueue.drop 1 }

/-- READ_MAIL (R191). -/
def execReadMail (s : State) : Host.Outcome State Fault Refusal :=
  .next (portCommand .readMail .read everyRole noCheck (fun x => (mailRead x, x.mailFields)) s)

/-- The overflow mark and its event are cleared together (R190). -/
def overflowCleared (s : State) : State :=
  s.withLp { s.lp with overflow := false, latched := clearEvent .mailOverflow s.lp.latched }

/-- CLEAR_MAIL_OVERFLOW (R190). -/
def execClearMailOverflow (s : State) : Host.Outcome State Fault Refusal :=
  .next (portCommand .clearMailOverflow .other everyRole noCheck (fun x => (overflowCleared x, [])) s)

end Sys2Proof.Machine
end

