-- ==== Sys2Proof/Machine/Dispatch.lean ====
section
/-! DEFINITION. What each command does to everything but the queue: one arm for each constructor of Instr, one direct call
of its meaning. -/

namespace Sys2Proof.Machine

/-- The effect of a command, by its meaning. -/
def exec (i : Instr) (s : State) : Host.Outcome State Fault Refusal :=
  match i with
  | .seatedAsserted straps => Sys2Proof.Machine.execSeatedAsserted straps s
  | .seatedLost => Sys2Proof.Machine.execSeatedLost s
  | .powerRemoved => Sys2Proof.Machine.execPowerRemoved s
  | .surpriseRemoval => Sys2Proof.Machine.execSurpriseRemoval s
  | .unseatedWaitEnd => Sys2Proof.Machine.execUnseatedWaitEnd s
  | .settleEnd straps => Sys2Proof.Machine.execSettleEnd straps s
  | .listenWindowEnd => Sys2Proof.Machine.execListenWindowEnd s
  | .restartWaitEnd => Sys2Proof.Machine.execRestartWaitEnd s
  | .resetNAsserted => Sys2Proof.Machine.execResetNAsserted s
  | .resetNReleased => Sys2Proof.Machine.execResetNReleased s
  | .handleInputChange level => Sys2Proof.Machine.execHandleInputChange level s
  | .handleOpening => Sys2Proof.Machine.execHandleOpening s
  | .handleClosing => Sys2Proof.Machine.execHandleClosing s
  | .graceEnd => Sys2Proof.Machine.execGraceEnd s
  | .powerGoodHigh => Sys2Proof.Machine.execPowerGoodHigh s
  | .powerGoodLost => Sys2Proof.Machine.execPowerGoodLost s
  | .tachEdge rotor moment => Sys2Proof.Machine.execTachEdge rotor moment s
  | .conversionEnd diode volts => Sys2Proof.Machine.execConversionEnd diode volts s
  | .shedPulseEnd => Sys2Proof.Machine.execShedPulseEnd s
  | .overloadGuardEnd => Sys2Proof.Machine.execOverloadGuardEnd s
  | .drainEnd => Sys2Proof.Machine.execDrainEnd s
  | .busIdle otherStarts => Sys2Proof.Machine.execBusIdle otherStarts s
  | .transmissionStopped how => Sys2Proof.Machine.execTransmissionStopped how s
  | .muteEnd => Sys2Proof.Machine.execMuteEnd s
  | .transmitSuccess => Sys2Proof.Machine.execTransmitSuccess s
  | .rateMeasurement m => Sys2Proof.Machine.execRateMeasurement m s
  | .rateCounterOverflow => Sys2Proof.Machine.execRateCounterOverflow s
  | .frameError bits => Sys2Proof.Machine.execFrameError bits s
  | .shedDetection => Sys2Proof.Machine.execShedDetection s
  | .claimReceived src payload => Sys2Proof.Machine.execClaimReceived src payload s
  | .releaseReceived src payload => Sys2Proof.Machine.execReleaseReceived src payload s
  | .capacityReceived src payload => Sys2Proof.Machine.execCapacityReceived src payload s
  | .fanstatReceived src payload => Sys2Proof.Machine.execFanstatReceived src payload s
  | .laneGrantReceived src payload => Sys2Proof.Machine.execLaneGrantReceived src payload s
  | .laneRequestReceived src payload => Sys2Proof.Machine.execLaneRequestReceived src payload s
  | .laneReleaseReceived src payload => Sys2Proof.Machine.execLaneReleaseReceived src payload s
  | .thermalReceived src payload => Sys2Proof.Machine.execThermalReceived src payload s
  | .announceReceived src payload => Sys2Proof.Machine.execAnnounceReceived src payload s
  | .joinReceived src payload => Sys2Proof.Machine.execJoinReceived src payload s
  | .leaveReceived src payload => Sys2Proof.Machine.execLeaveReceived src payload s
  | .mailReceived src payload => Sys2Proof.Machine.execMailReceived src payload s
  | .round => Sys2Proof.Machine.execRound s
  | .agingVisit => Sys2Proof.Machine.execAgingVisit s
  | .beat => Sys2Proof.Machine.execBeat s
  | .holdOffEnd => Sys2Proof.Machine.execHoldOffEnd s
  | .powerGoodWindowExpiry => Sys2Proof.Machine.execPowerGoodWindowExpiry s
  | .minOnEnd => Sys2Proof.Machine.execMinOnEnd s
  | .minOffEnd => Sys2Proof.Machine.execMinOffEnd s
  | .shedHoldoffEnd => Sys2Proof.Machine.execShedHoldoffEnd s
  | .raiseHoldOffEnd => Sys2Proof.Machine.execRaiseHoldOffEnd s
  | .reservationHoldOffEnd => Sys2Proof.Machine.execReservationHoldOffEnd s
  | .laneDrainEnd lane => Sys2Proof.Machine.execLaneDrainEnd lane s
  | .replyWindowEnd uplink => Sys2Proof.Machine.execReplyWindowEnd uplink s
  | .chipSelectAsserted => Sys2Proof.Machine.execChipSelectAsserted s
  | .commandInvalid packet partialByte => Sys2Proof.Machine.execCommandInvalid packet partialByte s
  | .fetch count => Sys2Proof.Machine.execFetch count s
  | .sense => Sys2Proof.Machine.execSense s
  | .setMask word => Sys2Proof.Machine.execSetMask word s
  | .configure key channel value => Sys2Proof.Machine.execConfigure key channel value s
  | .readConfig => Sys2Proof.Machine.execReadConfig s
  | .go => Sys2Proof.Machine.execGo s
  | .restart => Sys2Proof.Machine.execRestart s
  | .powerOn => Sys2Proof.Machine.execPowerOn s
  | .powerOff => Sys2Proof.Machine.execPowerOff s
  | .setLevel level => Sys2Proof.Machine.execSetLevel level s
  | .setAmount amount => Sys2Proof.Machine.execSetAmount amount s
  | .clearFault => Sys2Proof.Machine.execClearFault s
  | .readPower => Sys2Proof.Machine.execReadPower s
  | .readBudget => Sys2Proof.Machine.execReadBudget s
  | .readClaims => Sys2Proof.Machine.execReadClaims s
  | .readRoster slot => Sys2Proof.Machine.execReadRoster slot s
  | .readChanges => Sys2Proof.Machine.execReadChanges s
  | .readMonitor channel => Sys2Proof.Machine.execReadMonitor channel s
  | .setLimits channel v0 v1 v2 v3 => Sys2Proof.Machine.execSetLimits channel v0 v1 v2 v3 s
  | .readFan => Sys2Proof.Machine.execReadFan s
  | .requestLanes uplink count => Sys2Proof.Machine.execRequestLanes uplink count s
  | .releaseLanes uplink => Sys2Proof.Machine.execReleaseLanes uplink s
  | .readLanes => Sys2Proof.Machine.execReadLanes s
  | .setLaneFault lane value => Sys2Proof.Machine.execSetLaneFault lane value s
  | .sendMail dest mode data => Sys2Proof.Machine.execSendMail dest mode data s
  | .readMail => Sys2Proof.Machine.execReadMail s
  | .abortMail tag => Sys2Proof.Machine.execAbortMail tag s
  | .clearMailOverflow => Sys2Proof.Machine.execClearMailOverflow s
  | .readBus flags => Sys2Proof.Machine.execReadBus flags s
  | .unknownKindReceived low src payload => Sys2Proof.Machine.execUnknownKindReceived low src payload s
  | .strangerSlotFrame kind low payload => Sys2Proof.Machine.execStrangerSlotFrame kind low payload s
  | .powerApplied straps => Sys2Proof.Machine.execPowerApplied straps s
  | .packetTaken packet => Sys2Proof.Machine.execPacketTaken packet s
  | .emptyRelease => Sys2Proof.Machine.execEmptyRelease s

end Sys2Proof.Machine
end

