-- ==== Sys2Proof/Safety.lean ====
section
/-! DEFINITION. What a sound station is, in the terms claims use: the tables in their one canonical form, the queues
within their sizes, the admitted marks as R71 gives them, the transmitter as the life state allows it (R35), no removal
left hanging (R175); and the laws of the part. -/

namespace Sys2Proof.Machine

/-- A queue within its size. -/
def within {α : Type} (size : Nat) (q : List α) : Bool := decide (q.length ≤ size)

/-- The roster: one entry a slot, in order (R40), the change queue within 16 records (R56), the lost count within a
byte. -/
def Roster.sound (r : Roster) : Bool :=
  slotWf r.entries && within Config.changeQueue r.changes && decide (r.lost ≤ 255)

/-- The claim table is in rank order (R62) and holds at most one claim a slot (R61). -/
def ranked (claims : List Claim) : Bool :=
  decide ((claims.map Claim.rank).Pairwise (· ≤ ·)) && decide ((claims.map (·.slot)).Nodup)

/-- The marks of the claim table are the admitted prefix of C_eff, and its length and sum are those reported (R71). -/
def Budget.marked (b : Budget) : Bool :=
  b.claims == markClaims b.stages.cEff 0 true b.claims && b.stages.prefixLen == admittedCount b.claims &&
    b.stages.prefixSum == admittedSum b.claims

/-- The budget unit: ranked and marked. -/
def Budget.sound (b : Budget) : Bool := ranked b.claims && b.marked

/-- The lane manager of an uplink: lanes and holders in order (R149, R150), the queue within 8 requests (R151). -/
def LaneManager.sound (m : LaneManager) : Bool :=
  slotWf m.lanes && slotWf m.holders && decide (m.queue.length ≤ Config.requestQueue)

/-- The lane records of a blade: in order, at most four (R164). -/
def recordsSound (lb : SlotMap LaneRecord) : Bool := slotWf lb && decide (lb.length ≤ Config.laneRecords)

/-- The outboxes of the bus interface within their sizes (R28), and the failure run within 16 (R36). -/
def BusInterface.sound (b : BusInterface) : Bool :=
  within Config.laneOutbox b.lanes && within Config.mailOutbox b.mails &&
    decide (b.failRun ≤ Config.failLimit)

/-- The mail receive queue within 8 messages (R189); latched events and mask in the fourteen used bits (R186, R188). -/
def LocalPort.sound (p : LocalPort) : Bool :=
  within Config.mailQueue p.mailQueue && p.latched &&& allEvents == p.latched && p.mask &&& allEvents == p.mask

/-- The fan controller: the thermal view in order, the applied duty a percentage (R135). -/
def FanControl.sound (f : FanControl) : Bool := slotWf f.view && decide (f.applied ≤ 100)

/-- The overload count from 0 to 3 (R108). -/
def Supply.sound (x : Supply) : Bool := decide (x.overload ≤ Config.overloadLimit)

/-- Every table and queue of the station is sound. -/
def State.sound (s : State) : Bool :=
  s.ro.sound && s.bu.sound && s.lm.sound && recordsSound s.lb && s.bi.sound && s.lp.sound && s.fc.sound && s.sup.sound

/-- The transmitter is OFF in every life state but ACTIVE, and not OFF in ACTIVE (R35). -/
def State.transmitterFits (s : State) : Bool := (s.bi.txState == .off) == !s.inLife .active

/-- A removal phase stands only in the life states R171 gives it: GRACE, POWERING_DOWN and UNSEATED in ACTIVE, the two
REMOVABLE phases in REMOVABLE. -/
def State.phaseFits (s : State) : Bool :=
  match s.lc.phase with
  | .noRemoval => !s.inLife .removable
  | .grace | .poweringDown | .unseated => s.inLife .active
  | .removableActive | .removableEarly => s.inLife .removable

/-- The capacity stages are those of the roster and the configuration as they stand: no stage belongs to an older roster
(R73). In START no own entry stands and the keys are the defaults, so that the next roster starts from the same. -/
def State.budgetFresh (s : State) : Bool :=
  s.bu.stages ==
      { computeStages s.lc.keys s.presentEntries with
        prefixLen := s.bu.stages.prefixLen, prefixSum := s.bu.stages.prefixSum } &&
    (!s.inLife .start || (!s.ro.ownPresent && s.lc.keys.budgetPart == ({} : Keys).budgetPart))

/-- The claim table holds, beside the own claim, the claim parts of the PRESENT entries and nothing else (R47, R61, R63).
In START nothing has been heard, read or claimed yet. -/
def State.claimsFollowRoster (s : State) : Prop :=
  (∀ n, n ≠ s.ownSlot →
    (claimOf s.bu.claims n).map (fun c => { c with admitted := false }) =
      (slotGet s.ro.entries n).bind (fun e => e.claim.map (claimOfPart n e.role))) ∧
  (s.inLife .start = true → s.lc.straps = none ∧ s.ro.entries = [] ∧ s.bu.claims = [] ∧ s.ps = {})

/-- The law under R142: a FAN station's applied duty is never below a fresh demand and never above 100, and it is 100 with no
fresh demand or outside ACTIVE; at the other roles PWM stands at 100. -/
def State.dutyCovers (s : State) : Prop :=
  s.fc.applied ≤ 100 ∧
    (s.isRole .fan = true →
      (∀ d ∈ s.freshDemands, min d 100 ≤ s.fc.applied) ∧
        (s.freshDemands = [] ∨ s.inLife .active = false → s.fc.applied = 100)) ∧
    (s.isRole .fan = false → s.fc.applied = 100)

/-- The law of R81: a consumer's PWR_EN is high only in ENABLING, ON and STOPPING, and there the own claim is present and
admitted. -/
def State.energisedLawfully (s : State) : Prop :=
  s.consumer = true →
    (s.pwrEn = true → s.ps.power.energised = true) ∧ (s.ps.power.energised = true → s.ownMark = true)

/-- The laws of R149, R151 and R162 at an uplink: lanes in use belong to PRESENT slots, at most four to a slot; at most one
request a slot, none of the slot of the reservation; the claim carries the lanes in use. -/
def State.lanesLawful (s : State) : Prop :=
  s.isRole .uplink = true →
    (∀ p ∈ s.lm.lanes, ∀ n, p.2.slot? = some n →
      (slotGet s.ro.entries n).isSome = true ∧ lanesOf s.lm.lanes n ≤ Config.lanesPerSlot) ∧
    (s.lm.queue.map (·.slot)).Nodup ∧
    (∀ r, s.lm.reservation = some r → s.isQueued r.slot = false) ∧
    (0 < lanesInUse s.lm.lanes →
      ∃ c, s.ownClaim = some c ∧
        c.amount = max 1 (s.lc.keys.baseAmount + s.lc.keys.laneCost * lanesInUse s.lm.lanes))

/-! ## What makes the laws of R81 and R162 last -/

/-- The station is in the chassis: ACTIVE, or in the REMOVABLE it entered from there (R171). -/
def State.joined (s : State) : Bool := s.inLife .active || (s.inLife .removable && s.lc.phase == .removableActive)

/-- The amount the own claim carries: that of the level, or the one a raise in flight tries (R82, R99, R100). -/
def State.claimAmount (s : State) : Nat :=
  match s.ps.raise with
  | .noRaise => s.levelAmount
  | .level | .lanes => s.fullAmount
  | .amount n => n

/-- The own claim is present in CLAIMING, ENABLING, ON and STOPPING and in no other power state, RANKED at the configured
priority, with the amount of level and raise; in STOPPING a blade's SET_AMOUNT is stored only (R82, R88, R92). -/
def State.claimFits (s : State) : Prop :=
  match s.ownClaim with
  | none => s.ps.power ≠ .claiming ∧ s.ps.power.energised = false
  | some c =>
    (s.ps.power = .claiming ∨ s.ps.power.energised = true) ∧ c.cls = .ranked ∧ c.priority = s.lc.keys.priority ∧
      (c.amount = s.claimAmount ∨ (s.ps.power = .stopping ∧ s.isRole .blade = true))

/-- A raise is in flight in ON alone: a LEVEL raise at FLOOR, an AMOUNT raise to more than the working amount at a blade's
FULL, LM's own at an uplink's FULL, which is in flight exactly while a reservation is (R99, R100, R153); lanes are in use in
ON at FULL alone (R162). -/
def State.raiseFits (s : State) : Prop :=
  (s.ps.raise = .noRaise ∨ s.ps.power = .on) ∧ (s.ps.raise = .level → s.ps.level = .floor) ∧
    (∀ n, s.ps.raise = .amount n → s.isRole .blade = true ∧ s.ps.level = .full ∧ s.ps.working < n) ∧
    (s.ps.raise = .lanes → s.isRole .uplink = true ∧ s.ps.level = .full) ∧
    (s.ps.raise = .lanes ↔ s.lm.reservation ≠ none) ∧
    (s.isRole .uplink = true → 0 < lanesInUse s.lm.lanes → s.ps.power = .on ∧ s.ps.level = .full)

/-- A consumer's power record fits its claim and its lanes: down with pending-on clear before the station has joined, and the
working amount at least the floor amount after (R80, R92, R97). -/
def State.powerFits (s : State) : Prop :=
  s.consumer = true →
    s.claimFits ∧ s.raiseFits ∧ (s.joined = false → s.ps.power.isDown = true ∧ s.ps.pendingOn = false) ∧
      (s.isRole .blade = true → s.joined = true → max 1 s.lc.keys.floorAmount ≤ s.ps.working)

/-- The configured requested amount is at least 1 and at least the floor amount (R10), and in START no lane is in use and
none asked for (R149). -/
def State.startFits (s : State) : Prop :=
  max 1 s.lc.keys.floorAmount ≤ s.lc.keys.requested ∧ (s.inLife .start = true → s.lm = {})

/-- The law of R81 with all that makes it last. -/
def State.powerLawful (s : State) : Prop :=
  s.energisedLawfully ∧ s.bu.sound = true ∧ s.budgetFresh = true ∧ s.claimsFollowRoster ∧ s.startFits ∧ s.powerFits

/-- Every queued request is of a PRESENT slot that would stay within four lanes with it (R149, R152), and every RESERVED lane
is of the reservation in flight (R153). -/
def State.queueFits (s : State) : Prop :=
  s.isRole .uplink = true →
    (∀ r ∈ s.lm.queue, (slotGet s.ro.entries r.slot).isSome = true ∧
      lanesOf s.lm.lanes r.slot + r.count ≤ Config.lanesPerSlot) ∧
    ∀ p ∈ s.lm.lanes, ∀ n, p.2 = .reserved n → s.isReserving n = true

/-- The laws of R149, R151 and R162 with all that makes them last. -/
def State.lanesKept (s : State) : Prop :=
  s.lanesLawful ∧ s.powerLawful ∧ s.lm.sound = true ∧ s.ro.sound = true ∧ s.queueFits

/-! ## Who may give a command (R185) -/

/-- The class and the roles of a command of the local port, as the command summary of R185 gives them; none for FETCH,
which is never refused, and for a command that is no packet. -/
def commandGate : Instr → Option (PortClass × (Role → Bool))
  | .sense | .setMask _ => some (.sense, everyRole)
  | .restart => some (.restart, everyRole)
  | .configure key _ _ => some (.other, keyOfRole key)
  | .readConfig | .readPower | .readBudget | .readClaims | .readRoster _ | .readChanges | .readMonitor _ | .readMail
  | .readBus _ => some (.read, everyRole)
  | .readFan => some (.read, fanOnly)
  | .readLanes => some (.read, lanesRole)
  | .go | .setLimits _ _ _ _ _ | .sendMail _ _ _ | .abortMail _ | .clearMailOverflow => some (.other, everyRole)
  | .powerOn | .powerOff => some (.other, notFan)
  | .setLevel _ | .clearFault => some (.other, consumers)
  | .setAmount _ | .requestLanes _ _ | .releaseLanes _ => some (.other, bladeOnly)
  | .setLaneFault _ _ => some (.other, uplinkOnly)
  | .seatedAsserted _ | .seatedLost | .powerRemoved | .surpriseRemoval | .unseatedWaitEnd | .settleEnd _
  | .listenWindowEnd | .restartWaitEnd | .resetNAsserted | .resetNReleased | .handleInputChange _ | .handleOpening
  | .handleClosing | .graceEnd | .powerGoodHigh | .powerGoodLost | .tachEdge _ _ | .conversionEnd _ _ | .shedPulseEnd
  | .overloadGuardEnd | .drainEnd | .busIdle _ | .transmissionStopped _ | .muteEnd | .transmitSuccess
  | .rateMeasurement _ | .rateCounterOverflow | .frameError _ | .shedDetection | .claimReceived _ _
  | .releaseReceived _ _ | .capacityReceived _ _ | .fanstatReceived _ _ | .laneGrantReceived _ _
  | .laneRequestReceived _ _ | .laneReleaseReceived _ _ | .thermalReceived _ _ | .announceReceived _ _
  | .joinReceived _ _ | .leaveReceived _ _ | .mailReceived _ _ | .round | .agingVisit | .beat | .holdOffEnd
  | .powerGoodWindowExpiry | .minOnEnd | .minOffEnd | .shedHoldoffEnd | .raiseHoldOffEnd | .reservationHoldOffEnd
  | .laneDrainEnd _ | .replyWindowEnd _ | .chipSelectAsserted | .commandInvalid _ _ | .fetch _
  | .unknownKindReceived _ _ _ | .strangerSlotFrame _ _ _ | .powerApplied _ | .packetTaken _ | .emptyRelease => none

/-- A command comes to its block with its result kept: it is the packet that executes, or a packet just closed, and no
command has been cut by a local reset (R183, R194). -/
def State.reaches (s : State) (c : Instr) : Bool := (s.portPath c).isSome && s.lp.lostCommands.isEmpty

/-- The command comes to its block and passes the life-state gate and the role (R185). -/
def State.accepts (s : State) (c : Instr) : Bool :=
  s.reaches c &&
    (match commandGate c with
     | some g => s.gate g.1 && s.roleIn g.2
     | none => false)

/-- The keys whose range is an interval, with its ends and the key's place (the configuration table of R10). -/
def rangedKeys (k : Keys) : List (ConfigKey × Nat × Nat × (Keys → Nat)) :=
  [(.nA, 1, 255, (·.nA)), (.nB, 0, 255, (·.nB)), (.retention, 2, 15, (·.retention)),
   (.identityRepeat, 1, 255, (·.identityRepeat)), (.typeCode, 0, 65535, (·.typeCode)),
   (.revision, 0, 255, (·.revision)), (.priority, 0, 7, (·.priority)),
   (.requested, max 1 k.floorAmount, 400, (·.requested)), (.floorAmount, 0, k.requested, (·.floorAmount)),
   (.fanClaim, 1, 100, (·.fanClaim)), (.holdOff, 1, 8, (·.holdOff)), (.shedHoldoff, 1, 64, (·.shedHoldoff)),
   (.minOn, 0, 60000, (·.minOn)), (.minOff, 0, 60000, (·.minOff)), (.pgWindow, 10, 5000, (·.pgWindow)),
   (.derateStep, 0, 15, (·.derateStep)), (.expectedFans, 0, 8, (·.expectedFans)), (.reserve, 0, 1000, (·.reserve)),
   (.rating, 1, 400, (·.rating)), (.rotorsFitted, 1, 4, (·.rotorsFitted)), (.tachLimit, 1000, 60000, (·.tachLimit)),
   (.sustainLimit, 1, 65535, (·.sustainLimit)), (.queueWait, 1, 255, (·.queueWait)), (.drain, 0, 15, (·.drain)),
   (.replyWindow, 1, 63, (·.replyWindow)), (.ejectGrace, 0, 60000, (·.ejectGrace)),
   (.mailThreshold, 1, 8, (·.mailThreshold))]

/-- The keys whose values are no interval of numbers. -/
def Keys.unranged (k : Keys) : Nat × Nat × Word64 × Redundancy × Bool × Bool × Quad (Option Int) × Quad Nat :=
  (k.baseAmount, k.laneCost, k.serial, k.redundancy, k.ownDemandCounts, k.mailBroadcast, k.demandTarget, k.demandSpan)

/-- The result a command left: its status byte and its fields (R184). -/
def State.answered (s : State) (st : Status) (fields : List Byte) : Prop :=
  s.lp.result = some (st.code :: fields) ∧ s.lp.phase = .idle

/-- A good frame of another station reaches RO: the receiver takes frames, with the rate set and an idle counted since it
last had to wait for one, the life state delivers them, and the source is a slot of the chassis other than the own (R17,
R23, R24, R42). -/
def State.hears (s : State) (src : BitVec 6) : Bool :=
  s.receives && s.delivers && decide (src.toNat < Config.slots) && src.toNat != s.ownSlot

/-- The station with its own claim written at an amount and a level: the mark it then bears is the one PS acts on after
its own writes (R64, R71, R93, R100). -/
def State.claimedAt (s : State) (amount : Nat) (l : Level) : State := setClaim { s.claimWith amount with level := l } s

/-- The station with the claim of another slot taken into its roster and its claim table (R47, R63). -/
def State.claimedBy (s : State) (slot : Nat) (e : RosterEntry) (c : ClaimPart) : State :=
  setClaim (claimOfPart slot e.role c) (s.putEntry slot { e with silence := 0, claim := some c })

/-- What a drop to FLOOR leaves at a moment for a cause (R93, R95, R96): level FLOOR in the same power state with the claim
at the FLOOR amount, the shed holdoff started, no raise of PS's own, POWER and SHED latched with their cause. -/
def State.droppedTo (s t : State) (moment : Nat) (cause : ShedCause) : Prop :=
  t.ps.power = s.ps.power ∧ t.ps.level = .floor ∧
    t.ps.shedHold = .running (moment + s.lc.keys.shedHoldoff * s.roundTicks) ∧ t.ps.shedCause = cause ∧
    t.ps.raiseHold = .stopped 0 ∧ (s.ps.raise ≠ .lanes → t.ps.raise = .noRaise) ∧
    (∃ c, t.ownClaim = some c ∧ c.amount = s.floorAmount ∧ c.level = .floor) ∧
    (s.pins.resetAsserted = false →
      t.hasEvent .power = true ∧ t.lp.powerCause = .shed ∧ t.hasEvent .shed = true ∧
        t.lp.shedCauses.getLsbD cause.code = true)

/-- What a forced switch-off leaves at a moment for a cause (R94): PWR_EN low since that moment with reason SHED and, but
from STOPPING, the shed holdoff running; where min-off is not 0 after a rise of PWR_EN, COOLDOWN with the claim withdrawn;
POWER and SHED latched. -/
def State.switchedOff (s t : State) (moment : Nat) (cause : ShedCause) : Prop :=
  t.ps.power.energised = false ∧ t.ps.reason = .shed ∧ t.ps.fellAt = some moment ∧
    (s.ps.power ≠ .stopping → t.ps.shedHold.isRunning = true ∧ t.ps.pgWindow = .stopped 0) ∧
    (s.ps.roseAt ≠ none → s.lc.keys.minOff ≠ 0 → t.ps.power = .cooldown ∧ t.ownClaim = none) ∧
    (s.pins.resetAsserted = false →
      t.hasEvent .power = true ∧ t.hasEvent .shed = true ∧ t.lp.shedCauses.getLsbD cause.code = true ∧
        (t.ps.power = .cooldown → t.lp.powerCause = .shed))

/-- The change queue with one record more, the oldest pushed out of a full queue (R56). -/
def State.noted (s : State) (kind : ChangeKind) (slot : Nat) (role : Role) (serial : Option Word64) : List Change :=
  let c : Change := { kind := kind, slot := slot, role := role, serial := serial, stamp := s.ro.roundCount }
  (s.ro.changes ++ [c]).drop (s.ro.changes.length + 1 - Config.changeQueue)

/-- After a frame of a slot the roster holds this entry there and every other entry as before; the frame is counted good,
and pins and sensors are left alone. -/
def State.heardFrom (s t : State) (slot : Nat) (e : Option RosterEntry) : Prop :=
  slotGet t.ro.entries slot = e ∧ (∀ n, n ≠ slot → slotGet t.ro.entries n = slotGet s.ro.entries n) ∧
    t.bi.stats.good = min (s.bi.stats.good + 1) 65535 ∧ t.pins = s.pins ∧ t.sm = s.sm

/-- The state with the transaction of another: its chip-select pin, its phase, its result buffer and what SDO carried. -/
def State.withTransaction (s t : State) : State :=
  { s with
    pins := { s.pins with chipSelect := t.pins.chipSelect, unheard := t.pins.unheard }
    lp := { s.lp with phase := t.lp.phase, result := t.lp.result, sdo := t.lp.sdo } }

/-- Over these choices, each the next in its turn and each without content, the choice of the next frame passes to a state:
their entries are emptied without a frame (R30). -/
def State.passesOver (s : State) : List Choice → State → Prop
  | [], t => t = s
  | c :: cs, t => s.nextChoice = some c ∧ s.content c = none ∧ (s.emptyChoice c).passesOver cs t

/-- What the end of a goodbye wait at a moment leaves: that of a restart START, with DONE kept where the RESTART still
executes (R15); that of a surprise removal the power-on condition, or START where SEATED is asserted (R180). -/
def State.goodbyeOver (s : State) (moment : Nat) : State :=
  { State.reset with
    now := moment
    pending := s.pending
    pins := s.pins
    lc :=
      if s.lc.restartWait.isRunning || s.pins.seated then { life := some .start, settle := .running (moment + 500000) }
      else {}
    lp := { result := if s.lc.restartWait.isRunning && s.lp.phase == .executing [6] then some [0] else none } }

/-- SELF-STALE stands, and when it clears the module claims again: a consumer in OFF in ACTIVE with pending-on set
(R102). -/
def State.claimsAgain (s : State) : Bool :=
  s.ro.selfStale && s.consumer && s.inLife .active && s.ps.power == .off && s.ps.pendingOn

/-- Nothing but the transaction of the port differs: where the line is not free there is no other difference at all, and
where it is free a frame is started as at the end of every command (R30). -/
def State.keptBeside (s t : State) : Prop :=
  t = startFrame (s.withTransaction t) ∧ (s.lineFree = false → t = s.withTransaction t)

end Sys2Proof.Machine
end

