-- ==== Sys2Proof/WellFormed.lean ====
section
/-! DEFINITION. Which terms of Instr are commands the outside can send: operands within the widths and ranges the rules
give them. The machine is total on the others too; nothing in it rests on this check. -/

namespace Sys2Proof

/-- A frame of a defined kind from a slot of the chassis, with the payload length of its kind (R20, R24). -/
def frameFits (kind : BitVec 4) (src : BitVec 6) (payload : List Byte) : Bool :=
  lengthFits kind payload.length && decide (src.toNat < Config.slots)

/-- The operands of a command lie where the rules put them. -/
def Instr.wellFormed : Instr → Bool
  | .tachEdge rotor _ => decide (rotor < 4)
  | .rateMeasurement m => decide (m ≤ 4095)
  | .frameError bits => !bits.isEmpty
  | .claimReceived src p => frameFits 0 src p
  | .releaseReceived src p => frameFits 1 src p
  | .capacityReceived src p => frameFits 2 src p
  | .fanstatReceived src p => frameFits 3 src p
  | .laneGrantReceived src p => frameFits 4 src p
  | .laneRequestReceived src p => frameFits 5 src p
  | .laneReleaseReceived src p => frameFits 6 src p
  | .thermalReceived src p => frameFits 7 src p
  | .announceReceived src p => frameFits 8 src p
  | .joinReceived src p => frameFits 9 src p
  | .leaveReceived src p => frameFits 10 src p
  | .mailReceived src p => frameFits 11 src p
  | .laneDrainEnd lane => decide (lane < Config.lanes)
  | .replyWindowEnd uplink => decide (uplink < Config.slots)
  | .commandInvalid packet part => packetRefused packet part
  | .configure key channel value =>
    decide (value.toNat < 256 ^ key.valueBytes) && (key.perChannel || channel == 0)
  | .sendMail _ _ data => decide (data.length ≤ 11)
  | .unknownKindReceived _ _ p => decide (p.length ≤ 12)
  | .strangerSlotFrame kind _ p => lengthFits kind p.length && decide (p.length ≤ 12)
  | .packetTaken packet => (decodePacket packet).isSome
  | .seatedAsserted _ | .seatedLost | .powerRemoved | .surpriseRemoval | .unseatedWaitEnd | .settleEnd _
  | .listenWindowEnd | .restartWaitEnd | .resetNAsserted | .resetNReleased | .handleInputChange _ | .handleOpening
  | .handleClosing | .graceEnd | .powerGoodHigh | .powerGoodLost | .conversionEnd _ _ | .shedPulseEnd
  | .overloadGuardEnd | .drainEnd | .busIdle _ | .transmissionStopped _ | .muteEnd | .transmitSuccess
  | .rateCounterOverflow | .shedDetection | .round | .agingVisit | .beat | .holdOffEnd | .powerGoodWindowExpiry
  | .minOnEnd | .minOffEnd | .shedHoldoffEnd | .raiseHoldOffEnd | .reservationHoldOffEnd | .chipSelectAsserted
  | .fetch _ | .sense | .setMask _ | .readConfig | .go | .restart | .powerOn | .powerOff | .setLevel _ | .setAmount _
  | .clearFault | .readPower | .readBudget | .readClaims | .readRoster _ | .readChanges | .readMonitor _
  | .setLimits _ _ _ _ _ | .readFan | .requestLanes _ _ | .releaseLanes _ | .readLanes | .setLaneFault _ _ | .readMail
  | .abortMail _ | .clearMailOverflow | .readBus _ | .powerApplied _ | .emptyRelease => true

end Sys2Proof
end

