-- ==== Sys2Proof/Certificates/Slice0/Obligations.lean ====
section
/-! DEFINITION. The statements for the provers: what the commands and the machine do, rule by rule. -/

open Sys2Proof Sys2Proof.Machine

/-! ## The machine as a whole -/

/-- A step takes the command at the front of the queue and carries it out with the queue's rest. -/
def Obligations.StepRunsFrontCommand : Prop :=
  ∀ (c : Instr) (rest : List Instr) (s : State),
    s.pending = c :: rest → step s = exec c { s with pending := rest }

/-- Every command answers a next state, in every state and with every operand; it touches no waiting command, and the
reference clock never goes back. On an empty queue one tick of the clock passes. Rests on the model's choices of log
entries 1 (a command that ends a timer carries the clock to that moment, and an empty queue is one tick) and 2 (a command
whose event cannot occur in a state leaves the state as it is). -/
def Obligations.EveryStepAnswersNext : Prop :=
  (∀ (c : Instr) (s : State), ∃ t, exec c s = .next t ∧ t.pending = s.pending ∧ s.now ≤ t.now) ∧
    ∀ s : State, s.pending = [] → step s = .next { s with now := s.now + 1 }

/-- At power-on every table and queue is sound, the transmitter is OFF, no removal phase stands and none is due, and the
laws of budget, roster, fan duty, power (R81) and lanes (R149, R151, R162) hold, with all that makes the last two last.
Rests on the model's choices of log entries 7 and 9. -/
def Obligations.ResetIsSound : Prop :=
  State.reset.sound = true ∧ State.reset.transmitterFits = true ∧ State.reset.phaseFits = true ∧
    State.reset.removalDue = false ∧ State.reset.budgetFresh = true ∧ State.reset.claimsFollowRoster ∧
    State.reset.dutyCovers ∧ State.reset.energisedLawfully ∧ State.reset.lanesLawful ∧ State.reset.powerLawful ∧
    State.reset.lanesKept

/-- Every step keeps the roster in its one form and the change queue within sixteen records (R40, R56). -/
def Obligations.RosterStaysSound : Prop :=
  ∀ s t : State, s.ro.sound = true → step s = .next t → t.ro.sound = true

/-- Every step keeps the claim table in rank order with at most one claim a slot, and its marks the admitted prefix of
C_eff (R61, R62, R71). -/
def Obligations.BudgetStaysSound : Prop :=
  ∀ s t : State, s.bu.sound = true → step s = .next t → t.bu.sound = true

/-- Every step keeps the lane manager's tables in order with at most eight requests, and a blade's lane records in order
and at most four (R149 to R151, R164). -/
def Obligations.LaneTablesStaySound : Prop :=
  ∀ s t : State, s.lm.sound = true → recordsSound s.lb = true → step s = .next t →
    t.lm.sound = true ∧ recordsSound t.lb = true

/-- Every step keeps the outboxes, the failure run, the mail receive queue and the thermal view within their sizes, the
applied duty a percentage and the overload count from 0 to 3, and the latched events and the mask within the fourteen
events (R28, R36, R108, R135, R186, R188, R189). -/
def Obligations.SizesStayInRange : Prop :=
  ∀ s t : State, step s = .next t →
    (s.bi.sound = true → t.bi.sound = true) ∧ (s.lp.sound = true → t.lp.sound = true) ∧
      (s.fc.sound = true → t.fc.sound = true) ∧ (s.sup.sound = true → t.sup.sound = true)

/-- Every step keeps the transmitter OFF in every life state but ACTIVE and not OFF in ACTIVE (R35), keeps the removal phase
in the life states that R171 gives it, and leaves no consumer's removal standing whose power has gone (R175). -/
def Obligations.LifeCycleStaysSound : Prop :=
  ∀ s t : State, step s = .next t →
    (s.transmitterFits = true → t.transmitterFits = true) ∧ (s.phaseFits = true → t.phaseFits = true) ∧
      (s.removalDue = false → t.removalDue = false)

/-! ## The laws of the part -/

/-- Every step leaves the capacity stages those of the roster and the configuration as they stand (R73). -/
def Obligations.BudgetIsNeverOlderThanRoster : Prop :=
  ∀ s t : State, s.budgetFresh = true → step s = .next t → t.budgetFresh = true

/-- Every step keeps the claim table, the own claim aside, equal to the claim parts of the roster (R47, R61, R63). -/
def Obligations.ClaimTableFollowsRoster : Prop :=
  ∀ s t : State, s.claimsFollowRoster → step s = .next t → t.claimsFollowRoster

/-- Every step keeps the applied duty at or above every fresh demand, at 100 without one and outside ACTIVE (R142). -/
def Obligations.AppliedDutyCoversFreshDemand : Prop :=
  ∀ s t : State, s.dutyCovers → step s = .next t → t.dutyCovers

/-- A station starts a frame only ENABLED in ACTIVE, or the LEAVE of its removal in REMOVABLE; in a goodbye wait it starts
only its LEAVE (R15, R35, R180). This holds of a start with no transmission before it and of one at the idle that classes a
transmission stopped before. Rests on the model's choices of log entry 3. -/
def Obligations.FramesStartOnlyWhereAllowed : Prop :=
  ∀ (s t : State) (x : Tx), step s = .next t → t.bi.tx = some x →
    (s.bi.tx = none ∨ (∃ y, s.bi.tx = some y ∧ y.stopped ≠ none ∧ x.stopped = none)) →
    ((t.inLife .active = true ∧ t.bi.txState = .enabled) ∨ (t.inLife .removable = true ∧ x.ref = .own .leave)) ∧
      (t.waiting = true → x.ref = .own .leave)

/-- The two module outputs are driven from PS's record alone: after START, PWR_EN of a consumer is high in ENABLING, ON and
STOPPING and low in the other power states, THROTTLE is asserted at FLOOR in CLAIMING, ENABLING, ON or STOPPING of a
consumer in ACTIVE or REMOVABLE and nowhere else; and every step keeps the law that a consumer is energised only with its
claim present and admitted (R81), together with what makes that law last: the table ranked and marked, the stages of the
present roster, the claims of the roster, and the own claim at the amount of level and raise. -/
def Obligations.EnergisedClaimIsAdmitted : Prop :=
  (∀ s : State,
    (s.consumer = true → s.lc.life ≠ none → s.inLife .start = false →
      (s.pwrEn = true ↔ s.ps.power = .enabling ∨ s.ps.power = .on ∨ s.ps.power = .stopping)) ∧
    (s.throttle = true ↔
      s.consumer = true ∧ (s.inLife .active = true ∨ s.inLife .removable = true) ∧ s.ps.level = .floor ∧
        (s.ps.power = .claiming ∨ s.ps.power = .enabling ∨ s.ps.power = .on ∨ s.ps.power = .stopping))) ∧
  State.reset.powerLawful ∧
  ∀ s t : State, s.powerLawful → step s = .next t → t.powerLawful

/-- Every step keeps the laws of an uplink's lanes: lanes in use belong to PRESENT slots, four at most to each, the queue
holds one request a slot, and the claim carries the lanes in use (R149, R151, R162); together with what makes them last: the
law of power, the tables sound, every request of a PRESENT slot within its limit, and RESERVED lanes of the reservation in
flight alone. The state after power-on meets it. -/
def Obligations.LanesBelongToPresentSlots : Prop :=
  State.reset.lanesKept ∧ ∀ s t : State, s.lanesKept → step s = .next t → t.lanesKept

/-! ## Encodings -/

/-- The packet of every well-formed command of the local port decodes to that command, with every operand. -/
def Obligations.PacketDecodesToItsCommand : Prop :=
  ∀ (i : Instr) (p : List Byte), i.wellFormed = true → encodePacket i = some p → decodePacket p = some i

/-- A frame of a defined kind with the payload length of its kind, put on the line as R20 to R22 give it, is received as
that frame. Rests on the model's choices of log entry 4. -/
def Obligations.FrameOnTheLineIsReceived : Prop :=
  ∀ f : Frame, lengthFits f.kind f.payload.length = true → f.payload.length ≤ 12 → classify f.lineBits = .good f

/-- A stuffed stretch never holds seven equal bits in a row, and the bit after six equal ones is of the opposite value
(R21). -/
def Obligations.StuffingBreaksRunsOfSix : Prop :=
  ∀ (bits pre post : List Bool) (b : Bool), stuff bits ≠ pre ++ List.replicate 7 b ++ post

/-! ## Power-on, START, LISTEN, READY, ACTIVE -/

/-- SEATED asserted with standby power and no life state, or standby power applied with SEATED asserted, enters START: every
block takes its initial state and the settle time of 20 ms runs (R1, R2; initial values the spec does not give are those
of log entries 6 and 9). Standby power removed, or SEATED lost outside ACTIVE or in a restart's wait, leaves the power-on
condition (R1, R15); the one-round wait of a surprise removal ends there, or in START where SEATED is
asserted again (R180); that of a restart ends in START (R15). Either wait also ends so as its LEAVE succeeds or is dropped by
a bit error, as a sixteenth bit error mutes the transmitter or gives up the LEAVE of REMOVABLE, and at a frame from the own
slot, which sends the station to no CLASH (R15, R35, R180); a transmitter MUTE at a loss of SEATED leaves no wait. Rests on the model's choices of log entries 1 (a wait ends at
the later of its end and the clock), 24 (DONE is kept for FETCH where the RESTART still executes) and 35 (a packet in
progress at a loss of standby power is not heeded). -/
def Obligations.StandbyPowerAndSeated : Prop :=
  ∀ s : State,
    (∀ p, s.pins.standby = true → s.lc.life = none →
      exec (.seatedAsserted p) s =
        .next { State.reset with
          now := s.now
          pending := s.pending
          pins := { s.pins with seated := true, straps := p }
          lc := { life := some .start, settle := .running (s.now + 500000) } }) ∧
    (∀ p, s.pins.standby = false → s.pins.seated = true →
      exec (.powerApplied p) s =
        .next { State.reset with
          now := s.now
          pending := s.pending
          pins := { s.pins with standby := true, straps := p }
          lc := { life := some .start, settle := .running (s.now + 500000) } }) ∧
    (s.pins.standby = true →
      exec .powerRemoved s =
        .next { State.reset with
          now := s.now, pending := s.pending, pins := { s.pins with standby := false, unheard := s.pins.chipSelect } }) ∧
    (s.pins.seated = true → s.lc.life ≠ none → (s.inLife .active = false ∨ s.lc.restartWait.isRunning = true) →
      exec .seatedLost s =
        .next { State.reset with
          now := s.now, pending := s.pending, pins := { s.pins with seated := false } }) ∧
    (∀ due, s.lc.unseatedWait = .running due →
      exec .unseatedWaitEnd s =
        .next { State.reset with
          now := max s.now due
          pending := s.pending
          pins := s.pins
          lc := if s.pins.seated then { life := some .start, settle := .running (max s.now due + 500000) } else {} }) ∧
    (∀ due, s.lc.restartWait = .running due →
      exec .restartWaitEnd s =
        .next { State.reset with
          now := max s.now due
          pending := s.pending
          pins := s.pins
          lc := { life := some .start, settle := .running (max s.now due + 500000) }
          lp := { result := if s.lp.phase = .executing [6] then some [0] else none } }) ∧
    (s.waiting = true →
      (∀ x, s.bi.tx = some x → x.stopped = none → x.ref = .own .leave →
        exec .transmitSuccess s = .next (s.goodbyeOver s.now)) ∧
      (∀ x otherStarts, s.bi.tx = some x → x.stopped = some .mismatch → x.shedSeen = false →
        s.bi.pulse.isRunning = false →
        ((s.inLife .active = true ∧ x.ref = .own .leave ∧ s.bi.kinds.leave = .sending .single none) ∨
          (s.inLife .active = true ∧ s.bi.txState = .enabled ∧ 15 ≤ s.bi.failRun) ∨
          (s.inLife .removable = true ∧ 15 ≤ s.bi.failRun)) →
        exec (.busIdle otherStarts) s = .next (s.goodbyeOver s.now)) ∧
      (∀ (c : Instr) (n : Nat) (src : BitVec 6) (p : List Byte), s.receives = true → s.delivers = true →
        src.toNat = s.ownSlot → p.length = n →
        (c, n) ∈ [(.claimReceived src p, 5), (.releaseReceived src p, 0), (.capacityReceived src p, 3),
          (.fanstatReceived src p, 3), (.laneGrantReceived src p, 5), (.laneRequestReceived src p, 2),
          (.laneReleaseReceived src p, 1), (.thermalReceived src p, 3), (.announceReceived src p, 7),
          (.joinReceived src p, 12), (.leaveReceived src p, 0), (.mailReceived src p, 1)] →
        exec c s = .next (s.goodbyeOver s.now))) ∧
    (∀ c, c = .seatedLost ∨ c = .surpriseRemoval → s.pins.seated = true → s.inLife .active = true →
      s.waiting = false → s.bi.txState = .mute →
      exec c s =
        .next { State.reset with now := s.now, pending := s.pending, pins := { s.pins with seated := false } })

/-- SEATED lost in ACTIVE: the phase becomes UNSEATED, LEAVE outcome PENDING and the one-round wait runs. A consumer's power
state becomes FAULT with reason UNSEATED, PWR_EN falls and its claim is withdrawn; a FAN station withdraws its claim with
the duty at 100; a supply's PWR_EN falls with no drain and its state becomes OFFLINE (R104, R180). -/
def Obligations.SeatedLossInActive : Prop :=
  ∀ (c : Instr) (s : State),
    (c = .seatedLost ∨ c = .surpriseRemoval) → s.pins.seated = true → s.inLife .active = true → s.waiting = false →
    s.bi.txState ≠ .mute →
    ∃ t, exec c s = .next t ∧ t.pins.seated = false ∧ t.inLife .active = true ∧ t.lc.phase = .unseated ∧
      t.lc.grace = .stopped 0 ∧ t.lc.leaveOutcome = .pending ∧
      t.lc.unseatedWait = .running (s.now + s.roundTicks) ∧ t.ro = s.ro ∧ t.sm = s.sm ∧
      (s.consumer = true →
        t.ps.power = .fault ∧ t.ps.reason = .unseated ∧ t.pwrEn = false ∧ t.ownClaim = none ∧ t.sup = s.sup) ∧
      (s.isRole .fan = true → t.ownClaim = none ∧ t.pwm = 100 ∧ t.pwrEn = true) ∧
      (s.isRole .power = true →
        t.pwrEn = false ∧ t.sup.drain = .stopped 0 ∧ t.sup.state = .offline ∧ t.sup.reported = 0)

/-- The settle time ends: straps and geography are read once; an odd number of high geography pins and a slot from 0 to 47
give LISTEN with its window of 2,000 ms, anything else HALTED at the strap default rate; in POWER role the capacity code
sets the rating (R3 to R5). Rests on the model's choices of log entries 1 and 23. -/
def Obligations.SettleEndReadsStraps : Prop :=
  ∀ (p : StrapPins) (s : State) (due : Nat),
    s.inLife .start = true → s.lc.settle = .running due → s.ps.power = .off →
    ∃ t, exec (.settleEnd p) s = .next t ∧
      t.lc.life = some (if geographyHigh p % 2 = 1 ∧ p.ga.toNat < 48 then .listen else .halted) ∧
      t.ownSlot = p.ga.toNat ∧ t.role = some (strapRole p) ∧ t.lc.listenCount = 0 ∧ t.lc.settle = .stopped 0 ∧
      (t.inLife .listen = true →
        t.lc.listenWindow = .running (max s.now due + 50000000) ∧ t.bi.rate = none ∧
          t.pwrEn = (strapRole p == .fan || strapRole p == .power)) ∧
      (t.inLife .halted = true →
        t.bi.rate = some (strapRate p) ∧ t.pwrEn = (strapRole p == .fan) ∧ t.readyLed = true) ∧
      (strapRole p = .power → t.lc.keys.rating = (p.cap.toNat + 1) * 25) ∧
      t.sm.conversion = .running (max s.now due + 200000)

/-- The listen window ends: the strap default becomes the bus rate and the alone-start mark is set where the rate is still
unlocked; an attended station with no remembered GO waits in READY, any other enters ACTIVE (R6, R7), and an unattended one
unmasks every event (R8).
Rests on the model's choices of log entry 1. -/
def Obligations.ListenWindowEnds : Prop :=
  ∀ (s : State) (x : Straps) (due : Nat),
    s.inLife .listen = true → s.lc.listenWindow = .running due → s.lc.straps = some x → s.lc.phase = .noRemoval →
    ∃ t, exec .listenWindowEnd s = .next t ∧
      t.lc.life = some (if x.attended = true ∧ s.lc.goRemembered = false then .ready else .active) ∧
      t.bi.rate = some (s.bi.rate.getD x.rate) ∧ t.lc.aloneStart = (s.lc.aloneStart || s.bi.rate.isNone) ∧
      t.lc.listenWindow = .stopped 0 ∧ t.ro.entries = s.ro.entries ∧ t.pins = s.pins ∧ t.sm = s.sm ∧
      t.lp.mask = (if x.attended then s.lp.mask else 0x3FFF#16) ∧
      (s.bi.rate = none → s.pins.resetAsserted = false →
        t.hasEvent .bus = true ∧ t.lp.busCauses = s.lp.busCauses ||| 0x10#8)

/-- GO: remembered in LISTEN; in READY the station enters ACTIVE, with the transmitter ENABLED, both interval timers and the
aging scan started, and JOIN and ANNOUNCE posted (R8, R11, R33, R34, R52); an unattended station unmasks every event, an
attended one keeps its mask (R8, R188). -/
def Obligations.GoEntersActive : Prop :=
  ∀ s : State, s.accepts .go = true →
    (s.inLife .listen = true →
      ∃ t, exec .go s = .next t ∧ t.answered .done [] ∧ t.inLife .listen = true ∧ t.lc.goRemembered = true) ∧
    (s.inLife .ready = true → s.lc.phase = .noRemoval →
      ∃ t, exec .go s = .next t ∧ t.answered .done [] ∧ t.inLife .active = true ∧ t.bi.txState = .enabled ∧
        t.bi.failRun = 0 ∧ t.bi.timerA = .running (s.now + s.roundTicks) ∧
        t.bi.timerB = (if s.lc.keys.nB = 0 then .stopped 0 else .running (s.now + s.beatTicks)) ∧
        t.bi.identityCount = 0 ∧ t.ro.ownPresent = true ∧ t.ro.scanning = true ∧ t.ro.pointer = 0 ∧
        t.ro.roundCount = 0 ∧ t.ro.entries = s.ro.entries ∧
        (∀ x, s.lc.straps = some x → t.lp.mask = (if x.attended then s.lp.mask else 0x3FFF#16)) ∧
        (s.bi.idle = false → s.waiting = false →
          t.bi.kinds.join = s.bi.kinds.join.post .retry ∧ t.bi.kinds.announce = s.bi.kinds.announce.post .retry))

/-- An accepted RESTART: in LISTEN, READY, HALTED and CLASH, in ACTIVE under MUTE and in REMOVABLE without a LEAVE to send,
the station is in START at once, with DONE in the result buffer and roster, budget, bus and keys at their initial values;
in ACTIVE otherwise LEAVE is posted, and there and in REMOVABLE with a LEAVE to send the one-round wait begins while the
command executes; what ends the wait is another statement (R14, R15). A supply's drain is abandoned at the taking of the
RESTART, and PWR_EN left as it is through the wait: R114 has the drain abandoned and does not say whether at the RESTART or
at the START after it, so this clause is the model's choice of log entry 20. -/
def Obligations.RestartTaken : Prop :=
  ∀ s : State, s.accepts .restart = true →
    ((s.activeOrRemovable = false ∨
        ((s.consumer = true → s.ps.power = .off ∨ s.ps.power = .fault) ∧
          ((s.inLife .active = true ∧ s.bi.txState = .mute) ∨
            (s.inLife .removable = true ∧ s.bi.kinds.leave = .empty)))) →
      ∃ t, exec .restart s = .next t ∧ t.inLife .start = true ∧ t.lc.straps = none ∧ t.lc.keys = {} ∧
        t.answered .done [] ∧ t.ro = State.reset.ro ∧ t.bu = State.reset.bu ∧ t.bi = State.reset.bi) ∧
    (s.inLife .active = true → s.bi.txState ≠ .mute →
      (s.consumer = true → (s.ps.power = .off ∨ s.ps.power = .fault) ∧ s.lc.phase = .noRemoval) →
      ∃ t, exec .restart s = .next t ∧ t.inLife .active = true ∧ t.bi.kinds.leave ≠ .empty ∧
        t.lc.restartWait = .running (s.now + s.roundTicks) ∧ t.lp.phase = .executing [6] ∧ t.lp.result = none ∧
        t.ro = s.ro ∧ t.bu = s.bu ∧ t.sup = { s.sup with drain := .stopped 0 } ∧ t.pwrEn = s.pwrEn) ∧
    (s.inLife .removable = true → s.bi.kinds.leave ≠ .empty →
      (s.consumer = true → s.ps.power = .off ∨ s.ps.power = .fault) →
      ∃ t, exec .restart s = .next t ∧
        t.lc = { s.lc with restartWait := .running (s.now + s.roundTicks) } ∧ t.bi.kinds.leave ≠ .empty ∧
        t.lp.phase = .executing [6] ∧ t.lp.result = none ∧ t.ro = s.ro ∧ t.bu = s.bu ∧ t.ps = s.ps ∧
        t.sup = { s.sup with drain := .stopped 0 } ∧ t.pwrEn = s.pwrEn)

/-! ## CLASH -/

/-- A good frame of any kind whose source is the own slot, one of 0 to 47, outside a goodbye wait (R12, R13, R24, R103):
the station is in CLASH, with the frame counted good, and as an unknown kind where its kind is 12 to 15; the
transmitter is OFF and every outbound entry emptied, both interval timers, the aging scan and the supply's timers stopped,
the own claim gone without a frame and no lane in use or recorded; a consumer is at OFF with reason CLASH, a FAN station's
duty at 100, a supply's output as it stands; every mail record in use is ABORTED; BUS is latched, and POWER at a consumer.
A station whose frames are delivered has read a slot below 48 (R3, R4).
Rests on the model's choices of log entries 36 and 50 (the eighth good frame of LISTEN). -/
def Obligations.ClashStopsTheStation : Prop :=
  ∀ (c : Instr) (kind : Nat) (low : BitVec 2) (src : BitVec 6) (p : List Byte) (s : State), s.receives = true →
    s.delivers = true → s.waiting = false → src.toNat = s.ownSlot → s.ownSlot < 48 →
    (c, kind) ∈ [(.claimReceived src p, 0), (.releaseReceived src p, 1), (.capacityReceived src p, 2),
      (.fanstatReceived src p, 3), (.laneGrantReceived src p, 4), (.laneRequestReceived src p, 5),
      (.laneReleaseReceived src p, 6), (.thermalReceived src p, 7), (.announceReceived src p, 8),
      (.joinReceived src p, 9), (.leaveReceived src p, 10), (.mailReceived src p, 11),
      (.unknownKindReceived low src p, 12 + low.toNat)] →
    lengthFits (BitVec.ofNat 4 kind) p.length = true →
    ∃ t, exec c s = .next t ∧
      t.lc = { s.lc with
        life := some .clash, phase := .noRemoval, grace := .stopped 0, listenWindow := .stopped 0
        listenCount := if s.inLife .listen then min (s.lc.listenCount + 1) 8 else s.lc.listenCount } ∧
      t.bi = { s.bi with
        idle := false, kinds := {}, lanes := [], mails := [], tx := none, txState := .off, mute := .stopped 0
        timerA := .stopped 0, timerB := .stopped 0
        stats := { s.bi.stats with
          good := min (s.bi.stats.good + 1) 65535
          unknownKinds :=
            if 12 ≤ kind then min (s.bi.stats.unknownKinds + 1) 65535 else s.bi.stats.unknownKinds } } ∧
      t.ro = { s.ro with scanning := false } ∧ t.fc = { s.fc with applied := 100 } ∧ t.lm = {} ∧ t.lb = [] ∧
      t.sm = s.sm ∧ t.pins = s.pins ∧ t.ownClaim = none ∧
      (∀ m, m ≠ s.ownSlot →
        (claimOf t.bu.claims m).map (fun x => { x with admitted := false }) =
          (claimOf s.bu.claims m).map (fun x => { x with admitted := false })) ∧
      (s.consumer = true →
        t.ps.power = .off ∧ t.ps.reason = .clash ∧ t.ps.pendingOn = false ∧ t.ps.raise = .noRaise ∧
          t.ps.holdOff = .stopped 0 ∧ t.ps.shedHold = .stopped 0 ∧ t.ps.raiseHold = .stopped 0 ∧
          t.ps.pgWindow = .stopped 0 ∧ t.ps.level = s.ps.level ∧ t.ps.desired = s.ps.desired ∧
          t.ps.working = s.ps.working ∧ t.pwrEn = false ∧
          t.ps.fellAt = (if s.ps.power.energised then some s.now else s.ps.fellAt)) ∧
      (s.consumer = false → t.ps = s.ps) ∧
      (s.isRole .fan = true → t.pwrEn = true ∧ t.pwm = 100) ∧
      (s.isRole .power = true →
        t.pwrEn = s.sup.output ∧ t.sup.state = s.sup.state ∧ t.sup.reported = s.sup.reported ∧
          (∀ due, s.sup.drain = .running due → t.sup.drain = .stopped (due - s.now)) ∧
          (∀ due, s.sup.guard = .running due → t.sup.guard = .stopped (due - s.now))) ∧
      (∀ m ∈ s.bi.mails, s.lp.statusOf m.box ≠ .unused → t.lp.statusOf m.box = .aborted) ∧
      (s.pins.resetAsserted = false →
        t.hasEvent .bus = true ∧ t.lp.busCauses = s.lp.busCauses ||| 2#8 ∧
          (s.consumer = true → t.hasEvent .power = true ∧ t.lp.powerCause = .clash))

/-! ## The ejector handle and RESET_N -/

/-- HANDLE is debounced (R172): its moves start and stop the timer of 50 ms and change nothing else; when the timer runs out
the debounced handle takes the new level and EJECT is latched with its cause. A closing that ends a removal before the
station spoke enters START, where no event is latched. Rests on the model's choices of log entry 1. -/
def Obligations.HandleIsDebounced : Prop :=
  ∀ s : State,
    (∀ level : Bool, s.pins.handleOpen = !level → s.lc.life ≠ none → s.inLife .start = false →
      exec (.handleInputChange level) s =
        .next { s with
          pins := { s.pins with handleOpen := level }
          lc := { s.lc with
            debounce := if level = (s.lc.handle == .opened) then .stopped 0 else .running (s.now + 1250000) } }) ∧
    (s.lc.debounce.isRunning = true → s.lc.handle = .closed → s.pins.handleOpen = true →
      ∃ t, exec .handleOpening s = .next t ∧ t.lc.handle = .opened ∧ t.lc.debounce = .stopped 0 ∧ t.ro = s.ro ∧
        t.sm = s.sm ∧ t.pins = s.pins ∧
        (s.pins.resetAsserted = false →
          t.hasEvent .eject = true ∧ t.lp.ejectCauses = s.lp.ejectCauses ||| 1#8)) ∧
    (s.lc.debounce.isRunning = true → s.lc.handle = .opened → s.pins.handleOpen = false →
      ∃ t, exec .handleClosing s = .next t ∧ t.lc.handle = .closed ∧ t.lc.debounce = .stopped 0 ∧ t.pins = s.pins ∧
        (s.pins.resetAsserted = false → s.inLife .removable = false →
          t.hasEvent .eject = true ∧ t.lp.ejectCauses = s.lp.ejectCauses ||| 2#8))

/-- An opening by life state and role: to REMOVABLE_EARLY before the station has spoken, a supply's PWR_EN falling (R173).
A consumer in OFF, FAULT or COOLDOWN is removed at once, and one in CLAIMING too, with its claim withdrawn and its state OFF;
in ENABLING or ON it begins its eject grace, or is in POWERING_DOWN and STOPPING at once where the grace is 0 ms; in STOPPING
it enters POWERING_DOWN; pending-on is cleared in COOLDOWN, ENABLING, ON and STOPPING (R174), and in OFF, FAULT and CLAIMING
too by the model's reading of log entry 33. A FAN station is removed at once with its claim withdrawn
(R176, R177); a supply goes OFFLINE: with its output high it begins its drain, a drain that runs goes on, and with its
output low it is removed at once (R177). Rests on the model's choices of log entries 1, 20 and 33. -/
def Obligations.OpeningStartsRemoval : Prop :=
  ∀ s : State, s.lc.debounce.isRunning = true → s.lc.handle = .closed → s.pins.handleOpen = true →
    ((s.inLife .listen || s.inLife .ready || s.inLife .halted) = true →
      ∃ t, exec .handleOpening s = .next t ∧ t.inLife .removable = true ∧ t.lc.phase = .removableEarly ∧
        t.lc.leaveOutcome = .noLeave ∧ t.lc.listenWindow = .stopped 0 ∧
        (s.isRole .power = true → t.pwrEn = false) ∧ (s.isRole .fan = true → t.pwrEn = true ∧ t.pwm = s.pwm)) ∧
    (s.inLife .active = true → s.waiting = false → s.lc.phase = .noRemoval →
      (s.consumer = true →
        ((s.ps.power = .off ∨ s.ps.power = .fault ∨ s.ps.power = .cooldown) →
          ∃ t, exec .handleOpening s = .next t ∧ t.inLife .removable = true ∧ t.lc.phase = .removableActive ∧
            t.lc.leaveOutcome = .pending ∧ t.bi.txState = .off ∧ t.ps = { s.ps with pendingOn := false } ∧
            t.bu = s.bu) ∧
        (s.ps.power = .claiming →
          ∃ t, exec .handleOpening s = .next t ∧ t.inLife .removable = true ∧ t.lc.phase = .removableActive ∧
            t.lc.leaveOutcome = .pending ∧ t.bi.txState = .off ∧ t.ps.power = .off ∧ t.ps.reason = .request ∧
            t.ps.holdOff = .stopped 0 ∧ t.ps.pendingOn = false ∧ t.ownClaim = none) ∧
        ((s.ps.power = .enabling ∨ s.ps.power = .on) → s.lc.keys.ejectGrace ≠ 0 →
          ∃ t, exec .handleOpening s = .next t ∧ t.inLife .active = true ∧ t.lc.phase = .grace ∧
            t.lc.grace = .running ((s.reach s.lc.debounce).now + s.lc.keys.ejectGrace * 25000) ∧
            t.ps.power = s.ps.power ∧ t.ps.pendingOn = false) ∧
        (∀ r, (s.ps.power = .enabling ∨ s.ps.power = .on) → s.lc.keys.ejectGrace = 0 → s.ps.roseAt = some r →
          (s.reach s.lc.debounce).now < r + s.lc.keys.minOn * 25000 →
          ∃ t, exec .handleOpening s = .next t ∧ t.inLife .active = true ∧ t.lc.phase = .poweringDown ∧
            t.lc.grace = .stopped 0 ∧ t.ps.power = .stopping ∧ t.ps.reason = .request ∧ t.ps.pendingOn = false) ∧
        (s.ps.power = .stopping →
          ∃ t, exec .handleOpening s = .next t ∧ t.inLife .active = true ∧ t.lc.phase = .poweringDown ∧
            t.ps = { s.ps with pendingOn := false } ∧ t.bu = s.bu)) ∧
      (s.isRole .fan = true →
        ∃ t, exec .handleOpening s = .next t ∧ t.inLife .removable = true ∧ t.lc.phase = .removableActive ∧
          t.lc.leaveOutcome = .pending ∧ t.bi.txState = .off ∧ t.ownClaim = none ∧ t.pwm = 100) ∧
      (s.isRole .power = true →
        ∃ t, exec .handleOpening s = .next t ∧ t.sup.localOff = true ∧ t.sup.state = .offline ∧ t.sup.reported = 0 ∧
          (s.sup.drain.isRunning = true →
            t.inLife .active = true ∧ t.lc.phase = .poweringDown ∧ t.sup.drain = s.sup.drain ∧ t.pwrEn = s.pwrEn) ∧
          (s.sup.drain.isRunning = false → s.sup.output = true →
            t.inLife .active = true ∧ t.lc.phase = .poweringDown ∧ t.pwrEn = true ∧
              t.sup.drain = .running ((s.reach s.lc.debounce).now + 2 * s.roundTicks)) ∧
          (s.sup.drain.isRunning = false → s.sup.output = false →
            t.inLife .removable = true ∧ t.lc.phase = .removableActive ∧ t.lc.leaveOutcome = .pending ∧
              t.bi.txState = .off ∧ t.pwrEn = false)))

/-- The eject grace ends, or POWER_OFF is taken in it: with min-on still running POWERING_DOWN, and the power state becomes
STOPPING by request; with min-on elapsed PWR_EN falls, the claim is withdrawn and the removal completes in COOLDOWN, or in
OFF where min-off is 0 ms (R83, R88, R89). A closing in GRACE ends the removal (R175). A closing in REMOVABLE_ACTIVE returns the station to ACTIVE (R179): the
transmitter ENABLED with failure run and identity count at 0, a PENDING LEAVE emptied with outcome NONE, JOIN and ANNOUNCE
posted, a FAN station's claim written and its duty 100, a supply's capacity posted, every answer to send and every release
mark posted or flagged. Rests on the model's choices of log entries 1 and 40. -/
def Obligations.GraceEndsOrIsCancelled : Prop :=
  (∀ (s : State) (due r : Nat), s.inLife .active = true → s.consumer = true → s.lc.phase = .grace →
    s.lc.grace = .running due → (s.ps.power = .enabling ∨ s.ps.power = .on) →
    (∀ (c : Instr) (moment : Nat), s.ps.roseAt = some r →
      ((c = .graceEnd ∧ moment = max s.now due) ∨ (c = .powerOff ∧ s.accepts .powerOff = true ∧ moment = s.now)) →
      (moment < r + s.lc.keys.minOn * 25000 →
        ∃ t, exec c s = .next t ∧ t.lc.phase = .poweringDown ∧ t.lc.grace = .stopped 0 ∧
          t.ps.power = .stopping ∧ t.ps.reason = .request ∧ t.ro = s.ro ∧ t.sm = s.sm ∧ t.sup = s.sup) ∧
      (r + s.lc.keys.minOn * 25000 ≤ moment →
        ∃ t, exec c s = .next t ∧ t.inLife .removable = true ∧ t.lc.phase = .removableActive ∧
          t.lc.grace = .stopped 0 ∧ t.lc.leaveOutcome = .pending ∧ t.bi.txState = .off ∧
          t.ps.power = (if s.lc.keys.minOff = 0 then .off else .cooldown) ∧ t.ps.reason = .request ∧
          t.ps.fellAt = some moment ∧ t.ps.pendingOn = false ∧ t.pwrEn = false ∧ t.ownClaim = none ∧
          t.ro = s.ro ∧ t.sm = s.sm ∧ t.sup = s.sup)) ∧
    (s.waiting = false → s.lc.debounce.isRunning = true → s.lc.handle = .opened → s.pins.handleOpen = false →
      ∃ t, exec .handleClosing s = .next t ∧ t.inLife .active = true ∧ t.lc.phase = .noRemoval ∧
        t.lc.grace = .stopped 0 ∧ t.ps = s.ps ∧ t.bu = s.bu ∧ t.ro = s.ro)) ∧
  ∀ s : State, s.inLife .removable = true → s.waiting = false → s.lc.phase = .removableActive →
    s.lc.debounce.isRunning = true → s.lc.handle = .opened → s.pins.handleOpen = false →
    ∃ t, exec .handleClosing s = .next t ∧
      t.lc = { s.lc with
        life := some .active, handle := .closed, debounce := .stopped 0, phase := .noRemoval
        leaveOutcome := if s.bi.kinds.leave.isPending then .noLeave else s.lc.leaveOutcome } ∧
      t.bi.txState = .enabled ∧ t.bi.failRun = 0 ∧ t.bi.identityCount = 0 ∧ t.bi.timerA = s.bi.timerA ∧
      t.bi.timerB = s.bi.timerB ∧ t.ro = s.ro ∧ t.sm = s.sm ∧ t.pins = s.pins ∧ t.pwm = 100 ∧
      (s.bi.idle = false →
        t.bi.kinds.join = s.bi.kinds.join.post .retry ∧ t.bi.kinds.announce = s.bi.kinds.announce.post .retry ∧
          (∀ m, s.bi.kinds.leave = .pending m → t.bi.kinds.leave = .empty) ∧
          (s.isRole .power = true → t.bi.kinds.capacity = s.bi.kinds.capacity.post .retry)) ∧
      (s.consumer = true → t.ps = s.ps ∧ t.bu = s.bu) ∧
      (s.isRole .fan = true →
        t.ps = { s.ps with power := .on, level := .full } ∧
          ∃ c, t.ownClaim = some c ∧ c.cls = .fan ∧ c.amount = s.lc.keys.fanClaim ∧ c.floor = s.lc.keys.fanClaim) ∧
      (∀ n h, s.isRole .uplink = true → slotGet s.lm.holders n = some h → h.answer.isSome = true →
        (∃ e ∈ t.bi.lanes, e.kind = .grant ∧ e.target = n) ∨ (t.holder n).notify = true) ∧
      (∀ u r, s.isRole .blade = true → slotGet s.lb u = some r → r.release = true →
        (∃ e ∈ t.bi.lanes, e.kind = .release ∧ e.target = u) ∨
          ∃ r', slotGet t.lb u = some r' ∧ r'.notify = true)

/-- Local reset: the assertion of RESET_N returns the port to its initial values, but for what SDO last carried and the
command that executes, whose effect still comes, after that of those lost earlier, and whose result is lost; it empties the mail outbox and the change
queue and touches nothing else. Its release lets events be latched again, ROSTER at once where the change queue holds a
record. An assertion while it is asserted, and a release while it is not, change nothing, by the model's choice of log
entry 2 (R60, R194). Rests on the model's choices of log entries 2, 24, 26 and 35 (a packet in progress is not heeded). -/
def Obligations.LocalReset : Prop :=
  ∀ s : State,
    (s.pins.resetAsserted = false →
      exec .resetNAsserted s =
        .next { s with
          pins := { s.pins with resetAsserted := true, unheard := s.pins.chipSelect }
          lp := {
            sdo := s.lp.sdo
            lostCommands := s.lp.lostCommands ++
              (match s.lp.phase with
               | .executing packet => [packet]
               | .idle | .command => []) }
          bi := { s.bi with
            mails := []
            tx := s.bi.tx.map (fun x => if x.ref = .mail then { x with ref := .orphan } else x) }
          ro := { s.ro with changes := [], lost := 0 } }) ∧
    (s.pins.resetAsserted = true →
      exec .resetNAsserted s = .next s ∧
        exec .resetNReleased s =
          .next { s with
            pins := { s.pins with resetAsserted := false }
            lp := { s.lp with
              latched := if s.ro.changes = [] then s.lp.latched else s.lp.latched ||| Event.roster.word } }) ∧
    (s.pins.resetAsserted = false → exec .resetNReleased s = .next s)

/-! ## The power sequencer -/

/-- The outputs at power-on and in START: PWR_EN is low at power-on and by the role straps in START, PWM at 100 %, THROTTLE
deasserted, LANE_EN low, the READY LED off (R1, R2); a FAN or POWER station never asserts THROTTLE, and the LED is on in
REMOVABLE and HALTED alone (R81, R171); ATTN is deasserted at power-on and in START, and asserted exactly while an event is
both latched and unmasked (R188), in every state whose event word and mask lie in the fourteen events, as SizesStayInRange
keeps them. -/
def Obligations.OutputsFollowState : Prop :=
  (State.reset.pwrEn = false ∧ State.reset.pwm = 100 ∧ State.reset.throttle = false ∧
    State.reset.readyLed = false ∧ State.reset.attn = false ∧ ∀ k, State.reset.laneEn k = false) ∧
  (∀ s : State,
    (s.enterStart false).pwrEn = (strapRole s.pins.straps == .fan || strapRole s.pins.straps == .power) ∧
      (s.enterStart false).pwm = 100 ∧ (s.enterStart false).throttle = false ∧
      (s.enterStart false).readyLed = false ∧ (s.enterStart false).attn = false ∧ ∀ k, (s.enterStart false).laneEn k = false) ∧
  ∀ s : State,
    ((s.isRole .fan = true ∨ s.isRole .power = true) → s.throttle = false) ∧
    (s.readyLed = true ↔ s.inLife .removable = true ∨ s.inLife .halted = true) ∧
    (s.lp.sound = true →
      (s.attn = true ↔ ∃ e : Event, s.hasEvent e = true ∧ s.lp.mask.getLsbD e.bit = true))

/-- POWER_ON at a consumer in OFF with SELF-STALE clear: CLAIMING, at the desired level but at FLOOR while the shed holdoff
runs or a thermal critical condition is present; the claim of R82 written with the amounts of the role and posted, the
hold-off started, POWER latched with cause REQUEST (R82, R84). In COOLDOWN and STOPPING it sets pending-on. Rests on the
model's choices of log entry 16. -/
def Obligations.PowerOnEntersClaiming : Prop :=
  ∀ s : State, s.accepts .powerOn = true → s.consumer = true → s.inLife .active = true → s.ejecting = false →
    (s.ps.power = .off → s.ro.selfStale = false →
      ∃ t c, exec .powerOn s = .next t ∧ t.answered .done [] ∧ t.ps.power = .claiming ∧
        t.ps.level = (if s.ps.shedHold.isRunning || s.thermalCritical then .floor else s.ps.desired) ∧
        t.ps.holdOff = .running (s.now + s.lc.keys.holdOff * s.roundTicks) ∧ t.ownClaim = some c ∧
        c.slot = s.ownSlot ∧ c.cls = .ranked ∧ c.priority = s.lc.keys.priority ∧ c.level = t.ps.level ∧
        (s.isRole .blade = true →
          c.floor = s.lc.keys.floorAmount ∧
            c.amount = (if t.ps.level = .full then s.ps.working else max 1 s.lc.keys.floorAmount)) ∧
        (s.isRole .uplink = true →
          c.floor = s.lc.keys.baseAmount ∧
            c.amount = max 1 (if t.ps.level = .full then
              s.lc.keys.baseAmount + s.lc.keys.laneCost * lanesInUse s.lm.lanes else s.lc.keys.baseAmount)) ∧
        (s.ownClaim = none → s.takesPosts = true → s.bi.idle = false →
          t.bi.kinds.claim = s.bi.kinds.claim.post .retry) ∧
        t.ro = s.ro ∧ t.sm = s.sm ∧ t.sup = s.sup ∧ t.fc = s.fc ∧ t.lc = s.lc ∧
        (s.pins.resetAsserted = false → t.hasEvent .power = true ∧ t.lp.powerCause = .request)) ∧
    ((s.ps.power = .cooldown ∨ s.ps.power = .stopping) →
      ∃ t, exec .powerOn s = .next t ∧ t.answered .done [] ∧ t.ps = { s.ps with pendingOn := true } ∧ t.bu = s.bu)

/-- The claim hold-off ends in CLAIMING. Admitted: ENABLING, the moment of rising recorded, the power-good window started,
or ON at once where POWER_GOOD stands high at FULL. Not admitted at FULL with a smaller FLOOR amount: the level becomes
FLOOR, the claim is rewritten and the hold-off starts again. Not admitted otherwise: CLAIMING goes on (R85, R86).
Rests on the model's choices of log entries 1 and 16. -/
def Obligations.HoldOffEndJudgesClaim : Prop :=
  ∀ (s : State) (due : Nat) (c : Claim), s.consumer = true → s.ps.power = .claiming → s.ps.holdOff = .running due →
    s.ownClaim = some c →
    (c.admitted = true → s.pins.powerGood = false →
      ∃ t, exec .holdOffEnd s = .next t ∧ t.ps.power = .enabling ∧ t.ps.holdOff = .stopped 0 ∧
        t.ps.roseAt = some (max s.now due) ∧
        t.ps.pgWindow = .running (max s.now due + s.lc.keys.pgWindow * 25000) ∧ t.bu = s.bu ∧ t.ro = s.ro ∧
        (s.pins.resetAsserted = false → t.hasEvent .power = true ∧ t.lp.powerCause = .admitted)) ∧
    (c.admitted = true → s.pins.powerGood = true → s.ps.level = .full → s.lm.queue = [] →
      ∃ t, exec .holdOffEnd s = .next t ∧ t.ps.power = .on ∧ t.ps.pgWindow = .stopped 0 ∧
        t.ps.roseAt = some (max s.now due)) ∧
    (c.admitted = false → s.ps.level = .full → s.floorAmount < c.amount →
      ∃ t c', exec .holdOffEnd s = .next t ∧ t.ps.power = .claiming ∧ t.ps.level = .floor ∧
        t.ps.holdOff = .running (max s.now due + s.lc.keys.holdOff * s.roundTicks) ∧ t.ownClaim = some c' ∧
        c'.amount = s.floorAmount ∧ c'.level = .floor ∧ t.ps.shedHold = s.ps.shedHold) ∧
    (c.admitted = false → (s.ps.level = .floor ∨ c.amount ≤ s.floorAmount) →
      ∃ t, exec .holdOffEnd s = .next t ∧ t.ps = { s.ps with holdOff := .stopped 0 } ∧ t.bu = s.bu)

/-- POWER_GOOD: high in ENABLING it takes a consumer to ON and stops the window; lost in ON, or never seen high while the
window ran, the fault path is taken: the moment of PWR_EN's fall is recorded, the claim is withdrawn, pending-on is
cleared, the state is FAULT with its reason and POWER is latched (R86, R90).
Rests on the model's choices of log entries 1 and 16. -/
def Obligations.PowerGoodDecides : Prop :=
  ∀ s : State, s.consumer = true →
    (s.ps.power = .enabling → s.ps.level = .full → s.lm.queue = [] →
      ∃ t, exec .powerGoodHigh s = .next t ∧ t.pins = { s.pins with powerGood := true } ∧
        t.ps = { s.ps with power := .on, pgWindow := .stopped 0 } ∧ t.bu = s.bu ∧ t.ro = s.ro ∧ t.lc = s.lc ∧
        (s.pins.resetAsserted = false → t.hasEvent .power = true ∧ t.lp.powerCause = .powerGood)) ∧
    (s.ps.power = .on →
      ∃ t, exec .powerGoodLost s = .next t ∧ t.pins = { s.pins with powerGood := false } ∧ t.ps.power = .fault ∧
        t.ps.reason = .pgLost ∧ t.ps.fellAt = some s.now ∧ t.ps.pendingOn = false ∧ t.ownClaim = none ∧
        t.ro = s.ro ∧ t.sm = s.sm ∧
        (s.pins.resetAsserted = false → t.hasEvent .power = true ∧ t.lp.powerCause = .pgLost)) ∧
    (∀ due, s.ps.power = .enabling → s.ps.pgWindow = .running due →
      ∃ t, exec .powerGoodWindowExpiry s = .next t ∧ t.pins = s.pins ∧ t.ps.power = .fault ∧
        t.ps.reason = .pgTimeout ∧ t.ps.fellAt = some (max s.now due) ∧ t.ps.pendingOn = false ∧
        t.ownClaim = none ∧ t.ro = s.ro ∧ t.sm = s.sm ∧
        (s.pins.resetAsserted = false → t.hasEvent .power = true ∧ t.lp.powerCause = .pgTimeout))

/-- POWER_OFF at a consumer in ACTIVE: from ENABLING and ON to STOPPING by request while min-on runs, with the window and
any raise stopped, the claim at what the level gives without lanes, and an uplink's lanes and requests given up (R87, R161);
with min-on elapsed PWR_EN falls at once, the claim is withdrawn and the state is COOLDOWN, or beyond it where min-off is
0 ms, which with pending-on clear is OFF (R83, R88, R89);
in CLAIMING the claim is withdrawn and the state is OFF with no COOLDOWN; in OFF, STOPPING and COOLDOWN pending-on is cleared
and no POWER event latched (R87, R88). Rests on the model's choice of log entry 61 (no POWER event there). -/
def Obligations.PowerOffStopsModule : Prop :=
  ∀ (s : State) (r : Nat), s.accepts .powerOff = true → s.consumer = true → s.inLife .active = true →
    s.ejecting = false →
    ((s.ps.power = .enabling ∨ s.ps.power = .on) → s.ps.roseAt = some r → s.now < r + s.lc.keys.minOn * 25000 →
      ∃ t c, exec .powerOff s = .next t ∧ t.answered .done [] ∧ t.ps.power = .stopping ∧ t.ps.reason = .request ∧
        t.ps.pgWindow = .stopped 0 ∧ t.ps.raiseHold = .stopped 0 ∧ t.pwrEn = true ∧ t.ro = s.ro ∧ t.sm = s.sm ∧
        t.sup = s.sup ∧ t.fc = s.fc ∧
        ((s.ps.raise = .lanes → s.isRole .uplink = true) → t.ps.raise = .noRaise) ∧ t.ownClaim = some c ∧
        c.level = s.ps.level ∧
        (s.isRole .blade = true →
          c.amount = (if s.ps.level = .full then s.ps.working else max 1 s.lc.keys.floorAmount)) ∧
        (s.isRole .uplink = true →
          c.amount = max 1 s.lc.keys.baseAmount ∧ lanesInUse t.lm.lanes = 0 ∧ t.lm.queue = [] ∧
            t.lm.reservation = none ∧
            (∀ lane n, (lane, LaneUse.granted n) ∈ s.lm.lanes → n < 64 →
              (t.holder n).answer = some { outcome := .revoked, reason := .uplinkOff }) ∧
            (∀ q ∈ s.lm.queue, (∀ lane, (lane, LaneUse.granted q.slot) ∉ s.lm.lanes) →
              (t.holder q.slot).answer = some { outcome := .denied, reason := .stopping }))) ∧
    ((s.ps.power = .enabling ∨ s.ps.power = .on) → s.ps.roseAt = some r → r + s.lc.keys.minOn * 25000 ≤ s.now →
      ∃ t, exec .powerOff s = .next t ∧ t.answered .done [] ∧ t.ps.reason = .request ∧ t.pwrEn = false ∧
        t.ps.fellAt = some s.now ∧ t.ps.pgWindow = .stopped 0 ∧ t.ps.raiseHold = .stopped 0 ∧ t.ro = s.ro ∧
        t.sm = s.sm ∧ t.sup = s.sup ∧ t.fc = s.fc ∧
        ((s.ps.raise = .lanes → s.isRole .uplink = true) → t.ps.raise = .noRaise) ∧
        (s.isRole .uplink = true → lanesInUse t.lm.lanes = 0 ∧ t.lm.queue = [] ∧ t.lm.reservation = none) ∧
        (s.lc.keys.minOff ≠ 0 →
          t.ps.power = .cooldown ∧ t.ownClaim = none ∧
            (s.pins.resetAsserted = false → t.hasEvent .power = true ∧ t.lp.powerCause = .minOn)) ∧
        (s.lc.keys.minOff = 0 → s.ps.pendingOn = false →
          t.ps.power = .off ∧ t.ownClaim = none ∧
            (s.pins.resetAsserted = false → t.hasEvent .power = true ∧ t.lp.powerCause = .minOff))) ∧
    (s.ps.power = .claiming →
      ∃ t, exec .powerOff s = .next t ∧ t.answered .done [] ∧ t.ps.power = .off ∧ t.ps.reason = .request ∧
        t.ps.holdOff = .stopped 0 ∧ t.ownClaim = none) ∧
    ((s.ps.power = .off ∨ s.ps.power = .stopping ∨ s.ps.power = .cooldown) →
      ∃ t, exec .powerOff s = .next t ∧ t.answered .done [] ∧ t.ps = { s.ps with pendingOn := false } ∧ t.bu = s.bu ∧
        t.lp.latched = s.lp.latched ∧ t.lp.powerCause = s.lp.powerCause)

/-- Min-on has elapsed in STOPPING: the moment of PWR_EN's fall is recorded, the claim is withdrawn and the state is COOLDOWN
while min-off runs. Min-off has elapsed in COOLDOWN with pending-on clear or SELF-STALE set: the state is OFF, and pending-on
stays; with pending-on set and SELF-STALE clear, CLAIMING (R88, R89). A min-off of 0 ms ends, outside START, as a separate
event at once: the module is in OFF, or in CLAIMING after the RELEASE of its old claim has started on a free line (R30,
R83). Rests on the model's choices of log
entries 1, 3, 16 and 32. -/
def Obligations.MinOnAndMinOffEnd : Prop :=
  ∀ (s : State) (r : Nat), s.consumer = true →
    (s.ps.power = .stopping → s.ps.roseAt = some r → s.lc.keys.minOff ≠ 0 →
      ∃ t, exec .minOnEnd s = .next t ∧ t.ps.power = .cooldown ∧
        t.ps.fellAt = some (max s.now (r + s.lc.keys.minOn * 25000)) ∧ t.ps.reason = s.ps.reason ∧
        t.ownClaim = none ∧ t.ro = s.ro ∧ t.sm = s.sm) ∧
    (s.inLife .start = false → s.ps.power = .stopping → s.ps.roseAt = some r → s.lc.keys.minOff = 0 →
      ∃ t, exec .minOnEnd s = .next t ∧ t.ps.fellAt = some (max s.now (r + s.lc.keys.minOn * 25000)) ∧
        t.ps.reason = s.ps.reason ∧ t.pwrEn = false ∧ t.ro = s.ro ∧ t.sm = s.sm ∧
        ((s.ejecting = true ∨ s.ps.pendingOn = false ∨ s.ro.selfStale = true) →
          t.ps.power = .off ∧ t.ownClaim = none ∧
            (s.pins.resetAsserted = false → t.hasEvent .power = true ∧ t.lp.powerCause = .minOff)) ∧
        (s.ejecting = false → s.ps.pendingOn = true → s.ro.selfStale = false →
          t.ps.power = .claiming ∧ t.ps.pendingOn = false ∧ t.ownClaim.isSome = true ∧
            (s.pins.resetAsserted = false → t.hasEvent .power = true ∧ t.lp.powerCause = .request) ∧
            (s.ownClaim.isSome = true → s.inLife .active = true → s.bi.txState = .enabled → s.waiting = false →
              s.lineFree = true → s.bi.kinds.claim = .empty → s.bi.kinds.release = .empty →
              t.bi.tx.map (·.frame) = some { kind := 1, src := BitVec.ofNat 6 s.ownSlot, payload := [] } ∧
                t.bi.kinds.claim = .pending .retry))) ∧
    (s.ps.power = .cooldown → s.ejecting = false → (s.ps.pendingOn = false ∨ s.ro.selfStale = true) →
      ∃ t, exec .minOffEnd s = .next t ∧ t.ps = { s.ps with power := .off } ∧ t.bu = s.bu ∧
        (s.pins.resetAsserted = false → t.hasEvent .power = true ∧ t.lp.powerCause = .minOff)) ∧
    (s.ps.power = .cooldown → s.ejecting = false → s.ps.pendingOn = true → s.ro.selfStale = false →
      ∃ t, exec .minOffEnd s = .next t ∧ t.ps.power = .claiming ∧ t.ps.pendingOn = false ∧
        t.ps.holdOff.isRunning = true ∧ t.ownClaim.isSome = true)

/-- CLEAR_FAULT in FAULT whose cause does not stand, with min-off running: COOLDOWN, and POWER latched with cause CLEAR. While
an OVERTEMP fault's channel holds its shutdown condition the command is refused with STATE. In any other power state it
changes nothing (R90). Rests on the model's choices of log entry 16. -/
def Obligations.ClearFaultLeavesFault : Prop :=
  ∀ (s : State) (r f : Nat), s.accepts .clearFault = true → s.activeOrRemovable = true → s.ejecting = false →
    (s.ps.power = .fault → s.ps.roseAt = some r → s.ps.fellAt = some f → s.now < f + s.lc.keys.minOff * 25000 →
      (s.ps.reason = .overtemp → s.shutdownHeld = false) → (s.ps.reason = .unseated → s.pins.seated = true) →
      ∃ t, exec .clearFault s = .next t ∧ t.answered .done [] ∧ t.ps = { s.ps with power := .cooldown } ∧
        t.bu = s.bu ∧
        (s.pins.resetAsserted = false → t.hasEvent .power = true ∧ t.lp.powerCause = .clear)) ∧
    (s.ps.power = .fault → s.ps.reason = .overtemp → s.shutdownHeld = true →
      ∃ t, exec .clearFault s = .next t ∧ t.answered .state [] ∧ t.ps = s.ps ∧ t.bu = s.bu) ∧
    (s.ps.power ≠ .fault →
      ∃ t, exec .clearFault s = .next t ∧ t.answered .done [] ∧ t.ps = s.ps ∧ t.bu = s.bu)

/-- SET_LEVEL (R91): FLOOR in CLAIMING at FULL takes the level and the claim to FLOOR and restarts the hold-off; in
ENABLING and ON at FULL it is the voluntary step down, which goes off where even the FLOOR amount is not admitted (R93);
in ON at FLOOR it ends a LEVEL raise. FULL in ON at FLOOR starts a LEVEL raise where nothing forbids one (R99).
Everywhere else only the desired level changes, and no POWER event is latched. A level byte above 1 is refused with RANGE.
Rests on the model's choices of log entries 16, 31 and 61 (no POWER event for the desired level alone). -/
def Obligations.SetLevelChangesLevel : Prop :=
  ∀ (level : Byte) (s : State), s.accepts (.setLevel level) = true → s.activeOrRemovable = true →
    s.ejecting = false →
    (level = 1 → s.ps.power = .claiming → s.ps.level = .full →
      ∃ t c, exec (.setLevel level) s = .next t ∧ t.answered .done [] ∧ t.ps.level = .floor ∧
        t.ps.desired = .floor ∧ t.ps.power = .claiming ∧ t.ownClaim = some c ∧ c.amount = s.floorAmount ∧
        c.level = .floor ∧ t.ps.holdOff = .running (s.now + s.lc.keys.holdOff * s.roundTicks)) ∧
    (level = 1 → (s.ps.power = .enabling ∨ s.ps.power = .on) → s.ps.level = .full →
      ((s.claimedAt s.floorAmount .floor).ownMark = true →
        ∃ t c, exec (.setLevel level) s = .next t ∧ t.answered .done [] ∧ t.ps.power = s.ps.power ∧
          t.ps.level = .floor ∧ t.ps.desired = .floor ∧ t.ps.shedHold = s.ps.shedHold ∧
          t.ps.raiseHold = .stopped 0 ∧ t.ownClaim = some c ∧ c.amount = s.floorAmount ∧ c.level = .floor ∧
          (s.ps.raise ≠ .lanes → t.ps.raise = .noRaise) ∧
          (s.pins.resetAsserted = false → t.hasEvent .power = true ∧ t.lp.powerCause = .request)) ∧
      ((s.claimedAt s.floorAmount .floor).ownMark = false →
        ∃ t, exec (.setLevel level) s = .next t ∧ t.answered .done [] ∧ t.ps.desired = .floor ∧
          t.ps.level = .floor ∧ s.switchedOff t s.now .budget)) ∧
    (level = 1 → s.ps.power = .on → s.ps.level = .floor → s.ps.raise = .level →
      ((s.claimedAt s.floorAmount .floor).ownMark = true →
        ∃ t c, exec (.setLevel level) s = .next t ∧ t.answered .done [] ∧ t.ownClaim = some c ∧
          c.amount = s.floorAmount ∧
          t.ps = { s.ps with desired := .floor, raise := .noRaise, raiseHold := .stopped 0 }) ∧
      ((s.claimedAt s.floorAmount .floor).ownMark = false →
        ∃ t, exec (.setLevel level) s = .next t ∧ t.answered .done [] ∧ t.ps.desired = .floor ∧
          s.switchedOff t s.now .budget)) ∧
    (level = 1 →
      ((s.ps.power = .off ∨ s.ps.power = .cooldown ∨ s.ps.power = .stopping ∨ s.ps.power = .fault) ∨
        (s.ps.level = .floor ∧ (s.ps.power ≠ .on ∨ s.ps.raise ≠ .level))) →
      ∃ t, exec (.setLevel level) s = .next t ∧ t.answered .done [] ∧
        t.ps = { s.ps with desired := .floor } ∧ t.bu = s.bu ∧
        t.lp.latched = s.lp.latched ∧ t.lp.powerCause = s.lp.powerCause) ∧
    (level = 0 →
      (s.inLife .active = false ∨ s.ps.power ≠ .on ∨ s.ps.level = .full ∨ s.ps.shedHold.isRunning = true ∨
        s.thermalCritical = true ∨ s.ps.raise ≠ .noRaise) →
      ∃ t, exec (.setLevel level) s = .next t ∧ t.answered .done [] ∧
        t.ps = { s.ps with desired := .full } ∧ t.bu = s.bu ∧
        t.lp.latched = s.lp.latched ∧ t.lp.powerCause = s.lp.powerCause) ∧
    (level = 0 → s.inLife .active = true → s.ps.power = .on → s.ps.level = .floor →
      s.ps.shedHold.isRunning = false → s.thermalCritical = false → s.ps.raise = .noRaise →
      (s.claimedAt s.fullAmount .floor).ownMark = true →
      ∃ t c, exec (.setLevel level) s = .next t ∧ t.answered .done [] ∧ t.ownClaim = some c ∧
        c.amount = s.fullAmount ∧ c.level = .floor ∧
        t.ps = { s.ps with
          desired := .full
          raise := .level
          raiseHold := .running (s.now + s.lc.keys.holdOff * s.roundTicks) }) ∧
    (2 ≤ level.toNat → ∃ t, exec (.setLevel level) s = .next t ∧ t.answered .range [] ∧ t.ps = s.ps ∧ t.bu = s.bu)

/-- SET_AMOUNT at a blade with no raise in flight (R92): the amount, brought into 1 to 400 and up to the floor amount,
is reported; at FLOOR, and in OFF, COOLDOWN, FAULT and STOPPING, it is stored; in CLAIMING at FULL the claim is
rewritten too and the hold-off restarts; in ENABLING and ON at FULL a lower or equal amount is claimed at once. A rise
at FULL is refused with STATE in ENABLING, and in ON while a thermal condition or the shed holdoff forbids it; else in
ON it is an AMOUNT raise (R100), which RAISE_DENIED ends at its write where it is not admitted, with the old amount
claimed again. Rests on the model's choices of log entry 31. -/
def Obligations.SetAmountStoresAmount : Prop :=
  ∀ (amount : Half) (s : State) (n : Nat), s.accepts (.setAmount amount) = true → s.activeOrRemovable = true →
    s.ps.raise = .noRaise → s.ejecting = false →
    n = max (min 400 (max 1 amount.toNat)) (max 1 s.lc.keys.floorAmount) →
    ((s.ps.power = .off ∨ s.ps.power = .cooldown ∨ s.ps.power = .fault ∨ s.ps.power = .stopping ∨
        s.ps.level = .floor) →
      ∃ t, exec (.setAmount amount) s = .next t ∧ t.answered .done (bytes2 n) ∧
        t.ps = { s.ps with working := n } ∧ t.bu = s.bu) ∧
    (s.ps.power = .claiming → s.ps.level = .full →
      ∃ t c, exec (.setAmount amount) s = .next t ∧ t.answered .done (bytes2 n) ∧ t.ps.working = n ∧
        t.ownClaim = some c ∧ c.amount = n ∧
        t.ps.holdOff = .running (s.now + s.lc.keys.holdOff * s.roundTicks)) ∧
    ((s.ps.power = .enabling ∨ s.ps.power = .on) → s.ps.level = .full → n ≤ s.ps.working →
      ∃ t c, exec (.setAmount amount) s = .next t ∧ t.answered .done (bytes2 n) ∧
        t.ps = { s.ps with working := n } ∧ t.ownClaim = some c ∧ c.amount = n ∧ c.level = .full) ∧
    (s.ps.level = .full → s.ps.working < n →
      (s.ps.power = .enabling ∨
        (s.ps.power = .on ∧ (s.thermalCritical = true ∨ s.ps.shedHold.isRunning = true))) →
      ∃ t, exec (.setAmount amount) s = .next t ∧ t.answered .state [] ∧ s.keptBeside t) ∧
    (s.ps.power = .on → s.ps.level = .full → s.ps.working < n → s.thermalCritical = false →
      s.ps.shedHold.isRunning = false →
      ((s.claimedAt n .full).ownMark = true →
        ∃ t c, exec (.setAmount amount) s = .next t ∧ t.answered .done (bytes2 n) ∧ t.ownClaim = some c ∧
          c.amount = n ∧ c.level = .full ∧
          t.ps = { s.ps with
            raise := .amount n, raiseHold := .running (s.now + s.lc.keys.holdOff * s.roundTicks) }) ∧
      ((s.claimedAt n .full).ownMark = false →
        ∃ t, exec (.setAmount amount) s = .next t ∧ t.answered .done (bytes2 n) ∧ t.ps.working = s.ps.working ∧
          t.ps.raise = .noRaise ∧
          (s.pins.resetAsserted = false → t.hasEvent .raiseDenied = true ∧ t.lp.raiseCauses.getLsbD 1 = true) ∧
          (((s.claimedAt n .full).claimedAt s.ps.working .full).ownMark = true →
            t.ps = { s.ps with raiseHold := .stopped 0 } ∧
              ∃ c, t.ownClaim = some c ∧ c.amount = s.ps.working)))

/-- A shed detection in ACTIVE is counted. A consumer in ENABLING, ON or STOPPING at FULL drops to FLOOR with its shed holdoff
started for a pulse; one in CLAIMING at FLOOR only starts its shed holdoff; FAN and POWER stations latch SHED and change
nothing of their power (R38, R95, R105, R118). -/
def Obligations.ShedPulseDropsToFloor : Prop :=
  ∀ s : State, s.inLife .active = true → s.watchesPulses = true →
    ∃ t, exec .shedDetection s = .next t ∧ t.bi.stats.shedPulses = min (s.bi.stats.shedPulses + 1) 65535 ∧
      t.ro = s.ro ∧ t.sm = s.sm ∧ t.pins = s.pins ∧ t.sup = s.sup ∧
      (s.consumer = true → (s.ps.power = .enabling ∨ s.ps.power = .on ∨ s.ps.power = .stopping) →
        s.ps.level = .full →
        t.ps.level = .floor ∧ t.ps.shedHold = .running (s.now + s.lc.keys.shedHoldoff * s.roundTicks) ∧
          t.ps.shedCause = .pulse) ∧
      (s.consumer = true → s.ps.power = .claiming → s.ps.level = .floor → s.ejecting = false →
        t.ps = { s.ps with
          shedHold := .running (s.now + s.lc.keys.shedHoldoff * s.roundTicks), shedCause := .pulse } ∧
          t.bu = s.bu) ∧
      (s.consumer = false → t.ps = s.ps ∧ t.bu = s.bu) ∧
      (s.pins.resetAsserted = false → t.hasEvent .shed = true ∧ t.lp.shedCauses.getLsbD 0 = true)

/-- The shed holdoff ends: where the raise conditions hold a LEVEL raise is in flight with its hold-off running if the
FULL amount is admitted at its write, and RAISE_DENIED is latched and the FLOOR amount claimed again if it is not; where
power state, level, desired level or a thermal condition forbids one, nothing else changes (R98 to R100). The raise
hold-off ends: admitted, a LEVEL raise takes the level to FULL and an AMOUNT raise makes the amount tried the working
amount; not admitted, the raise ends with RAISE_DENIED and the old claim. A CLAIM of another slot by which the own claim
loses its admission (R93, R94, R101): a raise in flight is denied and the old claim written; at FULL the module drops to
FLOOR; at FLOOR, in STOPPING, and where even the FLOOR amount is not admitted, it is switched off at once. Rests on the
model's choices of log entries 1 and 31. -/
def Obligations.RaiseStartsAndCompletes : Prop :=
  ∀ (s : State) (due : Nat), s.lc.phase = .noRemoval → s.consumer = true →
    (s.ps.shedHold = .running due → s.inLife .active = true → s.ps.power = .on → s.ps.level = .floor →
      s.ps.desired = .full → s.thermalCritical = false → s.ps.raise = .noRaise →
      ((s.claimedAt s.fullAmount .floor).ownMark = true →
        ∃ t c, exec .shedHoldoffEnd s = .next t ∧ t.ownClaim = some c ∧ c.amount = s.fullAmount ∧
          c.level = .floor ∧ c.admitted = true ∧
          t.ps = { s.ps with
            shedHold := .stopped 0
            raise := .level
            raiseHold := .running (max s.now due + s.lc.keys.holdOff * s.roundTicks) }) ∧
      ((s.claimedAt s.fullAmount .floor).ownMark = false →
        ∃ t, exec .shedHoldoffEnd s = .next t ∧ t.ps.raise = .noRaise ∧ t.ps.level = .floor ∧
          (s.pins.resetAsserted = false → t.hasEvent .raiseDenied = true ∧ t.lp.raiseCauses.getLsbD 0 = true) ∧
          (((s.claimedAt s.fullAmount .floor).claimedAt s.floorAmount .floor).ownMark = true →
            t.ps = { s.ps with
                shedHold := .running (max s.now due + s.lc.keys.shedHoldoff * s.roundTicks)
                raiseHold := .stopped 0 } ∧
              ∃ c, t.ownClaim = some c ∧ c.amount = s.floorAmount) ∧
          (((s.claimedAt s.fullAmount .floor).claimedAt s.floorAmount .floor).ownMark = false →
            s.switchedOff t (max s.now due) .budget))) ∧
    (s.ps.shedHold = .running due →
      (s.ps.power ≠ .on ∨ s.ps.level = .full ∨ s.ps.desired = .floor ∨ s.thermalCritical = true) →
      ∃ t, exec .shedHoldoffEnd s = .next t ∧ t.ps = { s.ps with shedHold := .stopped 0 } ∧ t.bu = s.bu ∧
        t.ro = s.ro ∧ t.lc = s.lc) ∧
    (s.ps.raiseHold = .running due → s.ps.power = .on → s.lm.queue = [] →
      (s.ps.raise = .level → s.ps.level = .floor →
        (s.ownMark = true →
          ∃ t c, exec .raiseHoldOffEnd s = .next t ∧ t.ownClaim = some c ∧ c.amount = s.fullAmount ∧
            c.level = .full ∧
            t.ps = { s.ps with level := .full, raise := .noRaise, raiseHold := .stopped 0 } ∧
            (s.pins.resetAsserted = false → t.hasEvent .power = true ∧ t.lp.powerCause = .raise)) ∧
        (s.ownMark = false →
          ∃ t, exec .raiseHoldOffEnd s = .next t ∧ t.ps.level = .floor ∧ t.ps.raise = .noRaise ∧
            (s.pins.resetAsserted = false → t.hasEvent .raiseDenied = true ∧ t.lp.raiseCauses.getLsbD 0 = true) ∧
            ((s.claimedAt s.floorAmount .floor).ownMark = true →
              t.ps.power = .on ∧ (∃ c, t.ownClaim = some c ∧ c.amount = s.floorAmount) ∧
                t.ps.shedHold = .running (max s.now due + s.lc.keys.shedHoldoff * s.roundTicks)) ∧
            ((s.claimedAt s.floorAmount .floor).ownMark = false → s.switchedOff t (max s.now due) .budget))) ∧
      (∀ n, s.ps.raise = .amount n → s.isRole .blade = true → s.ps.level = .full →
        (s.ownMark = true →
          ∃ t, exec .raiseHoldOffEnd s = .next t ∧
            t.ps = { s.ps with working := n, raise := .noRaise, raiseHold := .stopped 0 } ∧ t.bu = s.bu) ∧
        (s.ownMark = false → (s.claimedAt s.ps.working .full).ownMark = true →
          ∃ t c, exec .raiseHoldOffEnd s = .next t ∧ t.ownClaim = some c ∧ c.amount = s.ps.working ∧
            t.ps = { s.ps with raise := .noRaise, raiseHold := .stopped 0 } ∧
            (s.pins.resetAsserted = false →
              t.hasEvent .raiseDenied = true ∧ t.lp.raiseCauses.getLsbD 1 = true)))) ∧
    (∀ (src : BitVec 6) (p : List Byte) (e : RosterEntry) (u : State), s.inLife .active = true →
      s.hears src = true → slotGet s.ro.entries src.toNat = some e → e.role ≠ .power → p.length = 5 →
      u = s.claimedBy src.toNat e (readClaim p) → s.ownMark = true → u.ownMark = false →
      (s.ps.raise = .noRaise → (s.ps.power = .enabling ∨ s.ps.power = .on) → s.ps.level = .full →
        ∃ t, exec (.claimReceived src p) s = .next t ∧
          ((u.claimedAt s.floorAmount .floor).ownMark = true → s.droppedTo t s.now .budget) ∧
          ((u.claimedAt s.floorAmount .floor).ownMark = false →
            t.ps.level = .floor ∧ s.switchedOff t s.now .budget)) ∧
      (s.ps.raise = .noRaise →
        (s.ps.power = .stopping ∨ ((s.ps.power = .enabling ∨ s.ps.power = .on) ∧ s.ps.level = .floor)) →
        ∃ t, exec (.claimReceived src p) s = .next t ∧ s.switchedOff t s.now .budget) ∧
      (s.ps.raise = .noRaise → (s.ps.power = .claiming ∨ s.ps.power.isDown = true) →
        ∃ t, exec (.claimReceived src p) s = .next t ∧ t.ps = s.ps) ∧
      (s.ps.raise = .level → s.ps.power = .on → s.ps.level = .floor →
        ∃ t, exec (.claimReceived src p) s = .next t ∧ t.ps.raise = .noRaise ∧ t.ps.level = .floor ∧
          (s.pins.resetAsserted = false → t.hasEvent .raiseDenied = true ∧ t.lp.raiseCauses.getLsbD 0 = true) ∧
          ((u.claimedAt s.floorAmount .floor).ownMark = true →
            t.ps.power = .on ∧ (∃ c, t.ownClaim = some c ∧ c.amount = s.floorAmount) ∧
              t.ps.shedHold = .running (s.now + s.lc.keys.shedHoldoff * s.roundTicks)) ∧
          ((u.claimedAt s.floorAmount .floor).ownMark = false → s.switchedOff t s.now .budget)) ∧
      (∀ n, s.ps.raise = .amount n → s.isRole .blade = true → s.ps.power = .on → s.ps.level = .full →
        ∃ t, exec (.claimReceived src p) s = .next t ∧ t.ps.raise = .noRaise ∧ t.ps.working = s.ps.working ∧
          (s.pins.resetAsserted = false → t.hasEvent .raiseDenied = true ∧ t.lp.raiseCauses.getLsbD 1 = true) ∧
          ((u.claimedAt s.ps.working .full).ownMark = true →
            t.ps = { s.ps with raise := .noRaise, raiseHold := .stopped 0 } ∧
              ∃ c, t.ownClaim = some c ∧ c.amount = s.ps.working) ∧
          ((u.claimedAt s.ps.working .full).ownMark = false →
            ((u.claimedAt s.ps.working .full).claimedAt s.floorAmount .floor).ownMark = true →
            s.droppedTo t s.now .budget)))

/-! ## The budget -/

/-- The five capacity stages from the configuration and the PRESENT entries: the supply set with its sums, the supply sum
under each redundancy mode, the fan derate, the derated and the effective capacity, no stage above the one before it (R65 to
R67, R69, R70). A recompute latches REDUNDANCY and BUDGET exactly where the flag or C_eff has changed, and a station
configured NONE never latches REDUNDANCY (R68, R76). Rests on the model's choices of log entries 39 (nor at the change to
NONE that clears the flag) and 60 (the supply part alone puts an
entry into the supply set). -/
def Obligations.CapacityStages : Prop :=
  (∀ (k : Keys) (entries : List RosterEntry) (st : Stages), st = computeStages k entries →
    (∀ x, x ∈ supplySet entries ↔
      ∃ e ∈ entries, e.role = .power ∧ e.supply = some x ∧ 0 < x.capacity ∧ x.state ≠ .offline ∧
        x.state ≠ .failed) ∧
    st.n = (supplySet entries).length ∧ st.sum = ((supplySet entries).map (·.capacity)).sum ∧
    (∀ x ∈ supplySet entries, x.capacity ≤ st.largest) ∧
    (st.n = 0 → st.largest = 0) ∧ (st.n ≠ 0 → ∃ x ∈ supplySet entries, x.capacity = st.largest) ∧
    st.sumA = (((supplySet entries).filter (fun x => x.feed == .a)).map (·.capacity)).sum ∧
    st.sumA + st.sumB = st.sum ∧
    (k.redundancy = .noRedundancy → st.s = st.sum ∧ st.lost = false) ∧
    (k.redundancy = .nPlusOne →
      (st.n = 0 → st.s = 0 ∧ st.lost = false) ∧ (st.n = 1 → st.s = st.sum ∧ st.lost = true) ∧
        (2 ≤ st.n → st.s + st.largest = st.sum ∧ st.lost = false)) ∧
    (k.redundancy = .halfFeeds →
      (0 < st.sumA → 0 < st.sumB → st.s = min st.sumA st.sumB ∧ st.lost = false) ∧
        ((st.sumA = 0 ∨ st.sumB = 0) → st.s = st.sum ∧ (st.lost = true ↔ 0 < st.sum))) ∧
    st.fans = (entries.filter (fun e => e.role == .fan)).length ∧
    st.f = ((entries.filter (fun e => e.role == .fan)).map (fun e => (e.fan.map (·.failed)).getD 0)).sum +
      4 * (k.expectedFans - st.fans) ∧
    (st.h = 1 ↔ ∃ e ∈ entries, e.role = .fan ∧ ∃ x, e.fan = some x ∧ x.sustained = true) ∧ st.h ≤ 1 ∧
    st.d = min (st.f * k.derateStep + 10 * st.h) 60 ∧
    100 * st.cd ≤ st.s * (100 - st.d) ∧ st.s * (100 - st.d) < 100 * (st.cd + 1) ∧
    st.cEff = st.cd - k.reserve ∧ st.s ≤ st.sum ∧ st.cd ≤ st.s ∧ st.cEff ≤ st.cd ∧ st.cEff ≤ st.sum ∧
    (entries.length ≤ 48 → (∀ x ∈ supplySet entries, x.capacity ≤ 400) → st.sum ≤ 19200)) ∧
  ∀ s t : State, t = recompute s → s.pins.resetAsserted = false →
    t.lp = { s.lp with
      latched := s.lp.latched |||
        (if t.bu.stages.lost = s.bu.stages.lost ∨ s.lc.keys.redundancy = .noRedundancy then 0
         else Event.redundancy.word) |||
        (if t.bu.stages.cEff = s.bu.stages.cEff then 0 else Event.budget.word) }

/-- A recompute marks exactly the longest run from the front of the table whose sum is at most C_eff, keeps its length and
sum (R71), and touches nothing of a claim but its mark. -/
def Obligations.AdmittedPrefixIsLongestRun : Prop :=
  ∀ s t : State, t = recompute s →
    (∃ k, k ≤ t.bu.claims.length ∧
      (∀ i c, t.bu.claims[i]? = some c → (c.admitted = true ↔ i < k)) ∧
      ((t.bu.claims.take k).map (·.amount)).sum ≤ t.bu.stages.cEff ∧
      (k < t.bu.claims.length → t.bu.stages.cEff < ((t.bu.claims.take (k + 1)).map (·.amount)).sum) ∧
      t.bu.stages.prefixLen = k ∧ t.bu.stages.prefixSum = ((t.bu.claims.take k).map (·.amount)).sum) ∧
    t.bu.claims.map (fun c => { c with admitted := false }) =
      s.bu.claims.map (fun c => { c with admitted := false }) ∧
    t = { s with bu := t.bu, lp := t.lp }

/-! ## The roster -/

/-- A CLAIM, RELEASE, CAPACITY or FANSTAT from a PRESENT slot sets its silence count to 0 and changes its one part: the claim
part of any role but POWER, the supply part of a POWER entry, the fan part of a FAN entry; no change record is made (R42,
R47, R48). -/
def Obligations.ReportFramesUpdateEntry : Prop :=
  ∀ (src : BitVec 6) (p : List Byte) (s : State) (e : RosterEntry), s.hears src = true →
    slotGet s.ro.entries src.toNat = some e →
    (p.length = 5 →
      ∃ t, exec (.claimReceived src p) s = .next t ∧ t.ro.changes = s.ro.changes ∧
        s.heardFrom t src.toNat
          (some { e with silence := 0, claim := if e.role = .power then e.claim else some (readClaim p) })) ∧
    (p.length = 0 →
      ∃ t, exec (.releaseReceived src p) s = .next t ∧ t.ro.changes = s.ro.changes ∧
        s.heardFrom t src.toNat
          (some { e with silence := 0, claim := if e.role = .power then e.claim else none })) ∧
    (p.length = 3 →
      ∃ t, exec (.capacityReceived src p) s = .next t ∧ t.ro.changes = s.ro.changes ∧
        s.heardFrom t src.toNat
          (some { e with silence := 0, supply := if e.role = .power then some (readCapacity p) else e.supply })) ∧
    (p.length = 3 →
      ∃ t, exec (.fanstatReceived src p) s = .next t ∧ t.ro.changes = s.ro.changes ∧
        s.heardFrom t src.toNat
          (some { e with silence := 0, fan := if e.role = .fan then some (readFanstat p) else e.fan }))

/-- Comings and goings: JOIN and ANNOUNCE make an entry of an ABSENT slot (INSERTED, R43); a JOIN fills an identity
(IDENTIFIED) or refreshes it (R44); another role or serial is a swap (SWAPPED, R45); an ANNOUNCE of the same role updates
the entry (R46); LEAVE removes it (REMOVED, R49). Every record latches ROSTER (R57). -/
def Obligations.RosterFollowsComingsAndGoings : Prop :=
  ∀ (src : BitVec 6) (p : List Byte) (s : State), s.hears src = true → s.ro.changes.length ≤ 16 →
    (p.length = 7 → slotGet s.ro.entries src.toNat = none →
      ∃ t, exec (.announceReceived src p) s = .next t ∧
        s.heardFrom t src.toNat (some (entryOfAnnounce (readAnnounce p))) ∧
        t.ro.changes = s.noted .inserted src.toNat (readAnnounce p).role none ∧
        (s.pins.resetAsserted = false → t.hasEvent .roster = true)) ∧
    (∀ e, p.length = 7 → slotGet s.ro.entries src.toNat = some e →
      (e.role = (readAnnounce p).role →
        ∃ t, exec (.announceReceived src p) s = .next t ∧
          s.heardFrom t src.toNat (some ({ e with silence := 0 }.announced (readAnnounce p))) ∧
          t.ro.changes = s.ro.changes) ∧
      (e.role ≠ (readAnnounce p).role →
        ∃ t, exec (.announceReceived src p) s = .next t ∧
          s.heardFrom t src.toNat (some (entryOfAnnounce (readAnnounce p))) ∧
          t.ro.changes = s.noted .swapped src.toNat (readAnnounce p).role none ∧
          (s.pins.resetAsserted = false → t.hasEvent .roster = true))) ∧
    (p.length = 12 → slotGet s.ro.entries src.toNat = none →
      ∃ t, exec (.joinReceived src p) s = .next t ∧
        s.heardFrom t src.toNat (some (entryOfJoin (readJoin p).1 (readJoin p).2)) ∧
        t.ro.changes = s.noted .inserted src.toNat (readJoin p).1 (some (readJoin p).2.serial) ∧
        (s.pins.resetAsserted = false → t.hasEvent .roster = true)) ∧
    (∀ e, p.length = 12 → slotGet s.ro.entries src.toNat = some e →
      (e.role = (readJoin p).1 → e.identity = none →
        ∃ t, exec (.joinReceived src p) s = .next t ∧
          s.heardFrom t src.toNat (some { e with silence := 0, identity := some (readJoin p).2 }) ∧
          t.ro.changes = s.noted .identified src.toNat e.role (some (readJoin p).2.serial) ∧
          (s.pins.resetAsserted = false → t.hasEvent .roster = true)) ∧
      (∀ i, e.role = (readJoin p).1 → e.identity = some i → i.serial = (readJoin p).2.serial →
        ∃ t, exec (.joinReceived src p) s = .next t ∧
          s.heardFrom t src.toNat (some { e with silence := 0, identity := some (readJoin p).2 }) ∧
          t.ro.changes = s.ro.changes) ∧
      (∀ i, (e.role ≠ (readJoin p).1 ∨ (e.identity = some i ∧ i.serial ≠ (readJoin p).2.serial)) →
        ∃ t, exec (.joinReceived src p) s = .next t ∧
          s.heardFrom t src.toNat (some (entryOfJoin (readJoin p).1 (readJoin p).2)) ∧
          t.ro.changes = s.noted .swapped src.toNat (readJoin p).1 (some (readJoin p).2.serial) ∧
          (s.pins.resetAsserted = false → t.hasEvent .roster = true))) ∧
    (∀ e, p.length = 0 → slotGet s.ro.entries src.toNat = some e →
      ∃ t, exec (.leaveReceived src p) s = .next t ∧ s.heardFrom t src.toNat none ∧
        t.ro.changes = s.noted .removed src.toNat e.role (e.identity.map (·.serial)) ∧
        (s.pins.resetAsserted = false → t.hasEvent .roster = true))

/-- What reaches no block: kinds 12 to 15 are counted as unknown, sources 48 to 63 as strangers (R24), and so is a
report, lane, thermal or LEAVE frame from an ABSENT slot (R50); a frame with an error, a payload length that its kind
does not have among them, is counted by its class, and the receiver waits for the next idle, before which it takes no
frame (R23). The roster keeps every entry. Rests on the model's choices of log entries 10, 38 and 47. -/
def Obligations.OddFramesAreOnlyCounted : Prop :=
  ∀ (s : State), s.lc.life ≠ none → s.inLife .start = false → s.bi.rate ≠ none →
    (∀ low src p, s.bi.synced = true → src.toNat < 48 → src.toNat ≠ s.ownSlot →
      ∃ t, exec (.unknownKindReceived low src p) s = .next t ∧ t.ro.entries = s.ro.entries ∧
        t.ro.changes = s.ro.changes ∧ t.bi.stats.unknownKinds = min (s.bi.stats.unknownKinds + 1) 65535 ∧
        t.bi.stats.good = min (s.bi.stats.good + 1) 65535 ∧ t.bi.stats.strangers = s.bi.stats.strangers) ∧
    (∀ kind low p, s.bi.synced = true → lengthFits kind p.length = true → s.ownSlot < 48 →
      ∃ t, exec (.strangerSlotFrame kind low p) s = .next t ∧ t.ro.entries = s.ro.entries ∧
        t.ro.changes = s.ro.changes ∧ t.bi.stats.strangers = min (s.bi.stats.strangers + 1) 65535 ∧
        t.bi.stats.good = min (s.bi.stats.good + 1) 65535 ∧ (s.inLife .active = true → t.ro.heardMark = true)) ∧
    (∀ src p c n, s.hears src = true → slotGet s.ro.entries src.toNat = none →
      (c, n) ∈ [(.claimReceived src p, 5), (.releaseReceived src p, 0), (.capacityReceived src p, 3),
        (.fanstatReceived src p, 3), (.laneGrantReceived src p, 5), (.laneRequestReceived src p, 2),
        (.laneReleaseReceived src p, 1), (.thermalReceived src p, 3), (.leaveReceived src p, 0)] →
      p.length = n →
      ∃ t, exec c s = .next t ∧ t.ro.entries = s.ro.entries ∧ t.ro.changes = s.ro.changes ∧
        t.bi.stats.strangers = min (s.bi.stats.strangers + 1) 65535 ∧ t.fc.view = s.fc.view ∧
        t.lm.lanes = s.lm.lanes) ∧
    (∀ bits, s.bi.synced = true →
      (classify bits = .stuffError →
        exec (.frameError bits) s =
          .next { s with bi := { s.bi with
            idle := false
            synced := false
            stats := { s.bi.stats with stuffErrors := min (s.bi.stats.stuffErrors + 1) 65535 } } }) ∧
      (classify bits = .truncation →
        exec (.frameError bits) s =
          .next { s with bi := { s.bi with
            idle := false
            synced := false
            stats := { s.bi.stats with truncations := min (s.bi.stats.truncations + 1) 65535 } } }) ∧
      (classify bits = .checkError →
        exec (.frameError bits) s =
          .next { s with bi := { s.bi with
            idle := false
            synced := false
            stats := { s.bi.stats with checkErrors := min (s.bi.stats.checkErrors + 1) 65535 } } })) ∧
    (∀ src p c n, s.removalDue = false →
      (c, n) ∈ [(.claimReceived src p, 5), (.releaseReceived src p, 0), (.capacityReceived src p, 3),
        (.fanstatReceived src p, 3), (.laneGrantReceived src p, 5), (.laneRequestReceived src p, 2),
        (.laneReleaseReceived src p, 1), (.thermalReceived src p, 3), (.announceReceived src p, 7),
        (.joinReceived src p, 12), (.leaveReceived src p, 0)] →
      (s.bi.synced = true → p.length ≠ n →
        exec c s =
          .next { s with bi := { s.bi with
            idle := false
            synced := false
            stats := { s.bi.stats with checkErrors := min (s.bi.stats.checkErrors + 1) 65535 } } }) ∧
      (s.bi.synced = false → s.bi.idle = false →
        exec c s = .next s ∧ ∀ bits, exec (.frameError bits) s = .next s))

/-- The aging scan: a visit to a PRESENT entry raises its silence count, or expires it at the retention limit with an EXPIRED
record (R53); a visit to an ABSENT one changes no entry; the visit to the own slot judges and clears the two marks, and
SELF-STALE rises with the count at the limit and BUS is latched (R54, R55); PS is told once: a consumer in ENABLING, ON or
STOPPING is switched off at once, in CLAIMING it goes to OFF, with reason STALE, the claim withdrawn and pending-on set, or
clear in a removal under way; in OFF, COOLDOWN and FAULT nothing changes (R102, R175). The pointer moves on through the 48 slots (R52). -/
def Obligations.AgingVisitJudgesSlot : Prop :=
  ∀ (s : State), s.ro.scanning = true → s.ro.pointer < 48 → s.ro.changes.length ≤ 16 →
    (s.ro.pointer ≠ s.ownSlot →
      (slotGet s.ro.entries s.ro.pointer = none →
        ∃ t, exec .agingVisit s = .next t ∧ t.ro.entries = s.ro.entries ∧ t.ro.changes = s.ro.changes ∧
          t.ro.pointer = (s.ro.pointer + 1) % 48) ∧
      (∀ e, slotGet s.ro.entries s.ro.pointer = some e →
        (min (e.silence + 1) 15 < s.lc.keys.retention →
          ∃ t, exec .agingVisit s = .next t ∧
            slotGet t.ro.entries s.ro.pointer = some { e with silence := min (e.silence + 1) 15 } ∧
            (∀ n, n ≠ s.ro.pointer → slotGet t.ro.entries n = slotGet s.ro.entries n) ∧
            t.ro.changes = s.ro.changes ∧ t.ro.pointer = (s.ro.pointer + 1) % 48) ∧
        (s.lc.keys.retention ≤ min (e.silence + 1) 15 →
          ∃ t, exec .agingVisit s = .next t ∧ slotGet t.ro.entries s.ro.pointer = none ∧
            (∀ n, n ≠ s.ro.pointer → slotGet t.ro.entries n = slotGet s.ro.entries n) ∧
            t.ro.changes = s.noted .expired s.ro.pointer e.role (e.identity.map (·.serial)) ∧
            t.ro.pointer = (s.ro.pointer + 1) % 48))) ∧
    (s.ro.pointer = s.ownSlot →
      ∃ t, exec .agingVisit s = .next t ∧ t.ro.entries = s.ro.entries ∧ t.ro.changes = s.ro.changes ∧
        t.ro.sentMark = false ∧ t.ro.heardMark = false ∧ t.ro.pointer = (s.ro.pointer + 1) % 48 ∧
        t.ro.selfSilence =
          (if s.inLife .active = true ∧ s.ro.sentMark = false ∧ s.ro.heardMark = true then
            min (s.ro.selfSilence + 1) 15 else s.ro.selfSilence) ∧
        (s.inLife .active = true → s.ro.sentMark = false → s.ro.heardMark = true →
          s.lc.keys.retention ≤ min (s.ro.selfSilence + 1) 15 →
          t.ro.selfStale = true ∧
            (s.ro.selfStale = false → s.pins.resetAsserted = false →
              t.hasEvent .bus = true ∧ t.lp.busCauses = s.lp.busCauses ||| 4#8) ∧
            (s.consumer = true → s.ro.selfStale = false →
              ((s.ps.power = .enabling ∨ s.ps.power = .on ∨ s.ps.power = .stopping) →
                t.ps.power = (if s.lc.keys.minOff = 0 then .off else .cooldown) ∧ t.pwrEn = false ∧
                  t.ps.fellAt = some t.now ∧ t.ps.reason = .stale ∧ t.ps.pendingOn = !s.ejecting ∧
                  t.ps.raiseHold = .stopped 0 ∧ t.ps.pgWindow = .stopped 0 ∧ t.ownClaim = none ∧
                  (s.ejecting = true → t.inLife .removable = true ∧ t.lc.phase = .removableActive) ∧
                  (s.pins.resetAsserted = false →
                    t.hasEvent .power = true ∧ (s.lc.keys.minOff ≠ 0 → t.lp.powerCause = .stale))) ∧
              (s.ps.power = .claiming →
                t.ps.power = .off ∧ t.ps.reason = .stale ∧ t.ps.pendingOn = !s.ejecting ∧
                  t.ps.holdOff = .stopped 0 ∧ t.ownClaim = none ∧
                  (s.pins.resetAsserted = false → t.hasEvent .power = true ∧ t.lp.powerCause = .stale)) ∧
              (s.ps.power.isDown = true → s.removalDue = false → t.ps = s.ps)) ∧
            (s.ro.selfStale = true → s.removalDue = false → t.ps = s.ps ∧ t.bu = s.bu)))

/-! ## The slot bus -/

/-- Rate lock in LISTEN with the rate unlocked: a measurement within 3 % of a rate's expected count locks that rate and
latches BUS; one of 1,300 or less in no window counts a mismatch; a longer one, or a saturated counter, counts an
overflow (R18, R19). Whatever the outcome the station waits for an idle, and before one is counted it measures nothing
and takes no frame. A shed detection while the rate is unlocked is counted and leaves the measurement that its falling edge
has begun, so that its overflow is counted too (R18, R38). Rests on the model's choices of log entry 47. -/
def Obligations.RateLock : Prop :=
  ∀ (m : Nat) (s : State), s.inLife .listen = true → s.bi.rate = none →
    (s.bi.synced = false →
      exec (.rateMeasurement m) s = .next s ∧ exec .rateCounterOverflow s = .next s ∧
        ∀ bits, exec (.frameError bits) s = .next s) ∧
    (s.bi.synced = true →
      (∀ r e, (r, e) ∈ [(Rate.k1000, 150), (.k500, 300), (.k250, 600), (.k125, 1200)] →
        (m - e + (e - m)) * 100 ≤ 3 * e →
        ∃ t, exec (.rateMeasurement m) s = .next t ∧ t = { s with bi := t.bi, lp := t.lp } ∧
          t.bi = { s.bi with idle := false, synced := false, rate := some r } ∧
          (s.pins.resetAsserted = false →
            t.lp = { s.lp with
              latched := s.lp.latched ||| Event.bus.word, busCauses := s.lp.busCauses ||| 8#8 })) ∧
      (m ≤ 1300 →
        (∀ r e, (r, e) ∈ [(Rate.k1000, 150), (.k500, 300), (.k250, 600), (.k125, 1200)] →
          3 * e < (m - e + (e - m)) * 100) →
        exec (.rateMeasurement m) s =
          .next { s with bi := { s.bi with
            idle := false
            synced := false
            stats := { s.bi.stats with rateMismatches := min (s.bi.stats.rateMismatches + 1) 65535 } } }) ∧
      (1300 < m →
        exec (.rateMeasurement m) s =
          .next { s with bi := { s.bi with
            idle := false
            synced := false
            stats := { s.bi.stats with rateOverflows := min (s.bi.stats.rateOverflows + 1) 65535 } } }) ∧
      exec .rateCounterOverflow s =
        .next { s with bi := { s.bi with
          idle := false
          synced := false
          stats := { s.bi.stats with rateOverflows := min (s.bi.stats.rateOverflows + 1) 65535 } } }) ∧
    (s.bi.tx = none →
      exec .shedDetection s =
        .next { s with bi := { s.bi with
          idle := false
          stats := { s.bi.stats with shedPulses := min (s.bi.stats.shedPulses + 1) 65535 } } })

/-- At an idle a transmission stopped before is classed (what that leaves is another statement), and then the entry with the
lowest identifier starts, the retry of that transmission among them, with its content as its owner has it then; an entry
without content is emptied without a frame and the choice is made again; with nothing to start the bus stays idle; another
station's SYNC keeps it from starting (R17, R26, R30). Rests on the model's choices of log entry 3. -/
def Obligations.IdleStartsLowestIdentifier : Prop :=
  ∀ s : State,
    (∀ c, s.nextChoice = some c →
      s.bi.isPending c = true ∧ s.mayStart c = true ∧
        ∀ d, s.bi.isPending d = true → s.mayStart d = true → c.kind.toNat ≤ d.kind.toNat) ∧
    ∀ u, s.lc.life ≠ none → s.inLife .start = false → s.isSending = false → u = classEnding s →
      (s.bi.tx = none → u = s) ∧
      (u.lc.life ≠ none → u.inLife .start = false → u.removalDue = false →
        (∀ cs v, u.passesOver cs v → cs.length < 64 →
          (∀ c payload, v.nextChoice = some c → v.content c = some payload →
            ∃ t x, exec (.busIdle false) s = .next t ∧ t.bi.tx = some x ∧ x.stopped = none ∧ t.bi.idle = false ∧
              t.bi.synced = true ∧
              x.frame = { kind := c.kind, src := BitVec.ofNat 6 s.ownSlot, payload := payload } ∧ t.ro = u.ro ∧
              t.bu = u.bu ∧ t.ps = u.ps ∧ t.sup = u.sup ∧ t.sm = u.sm ∧ t.fc = u.fc ∧ t.lc = u.lc) ∧
          (v.nextChoice = none →
            exec (.busIdle false) s = .next { v with bi := { v.bi with idle := true, synced := true } })) ∧
        exec (.busIdle true) s = .next { u with bi := { u.bi with idle := false, synced := true } })

/-- How a transmission ends at its entry: stopped, it is classed at the next idle as arbitration loss, shed disturbance or
bit error, with its count, its failure run and its kind entry by mode, PENDING again with the repeat mode where the repeat
flag is set (R25, R26, R31); the sixteenth bit error in a row mutes the transmitter for two rounds (R36); a success empties
the entry or returns it by its repeat flag, resets failure run and self-silence and clears SELF-STALE, upon which a consumer
in OFF with pending-on set claims again (R27, R31, R54, R55, R102). A LANE_GRANT that
succeeds takes its answer with it, or leaves the newer one to be posted again; the freed entry serves the lowest flagged
record; a LANE_RELEASE that succeeds clears the release mark, and a record with nothing left leaves use; any other ending
returns a lane entry to PENDING (R150, R164). A mail entry ends SENT at a success, FAILED at a bit error in SINGLE mode, and
is PENDING again otherwise (R192). Rests on the model's choices of log entries 3, 5, 49, 51 (a failed single with its repeat
flag set) and 55 (the flagged record comes before the same slot's repost). -/
def Obligations.TransmissionEndsAtItsEntry : Prop :=
  (∀ (s : State) (x : Tx) (k : OwnKind) (m : Mode), s.bi.tx = some x → x.ref = .own k → x.mode = m →
    (∀ how, x.stopped = none →
      exec (.transmissionStopped how) s =
        .next { s with bi := { s.bi with tx := some { x with stopped := some how } } }) ∧
    (∀ how again, x.stopped = some how → x.doomed = false → s.bi.kinds.at k = .sending m again →
      s.bi.pulse.isRunning = false → s.inLife .active = true → s.bi.txState = .enabled → s.waiting = false →
      s.lc.phase = .noRemoval →
      (x.shedSeen = true →
        ∃ t, exec (.busIdle true) s = .next t ∧ t.bi.tx = none ∧
          t.bi.kinds.at k = .pending (again.getD m) ∧
          t.bi.failRun = s.bi.failRun ∧ t.ro = s.ro ∧
          t.bi.stats = { s.bi.stats with shedDisturbance := min (s.bi.stats.shedDisturbance + 1) 65535 }) ∧
      (x.shedSeen = false → how = .arbitration →
        ∃ t, exec (.busIdle true) s = .next t ∧ t.bi.tx = none ∧
          t.bi.kinds.at k = .pending (again.getD m) ∧
          t.bi.failRun = s.bi.failRun ∧ t.ro = s.ro ∧
          t.bi.stats = { s.bi.stats with arbitration := min (s.bi.stats.arbitration + 1) 65535 }) ∧
      (x.shedSeen = false → how = .mismatch → s.bi.failRun < 16 →
        ∃ t, exec (.busIdle true) s = .next t ∧ t.bi.tx = none ∧
          t.bi.kinds.at k =
            (match again with
             | some m' => .pending m'
             | none => if m = .retry then .pending .retry else .empty) ∧
          t.bi.failRun = s.bi.failRun + 1 ∧ t.ro = s.ro ∧
          t.bi.stats = { s.bi.stats with
            bitErrors := min (s.bi.stats.bitErrors + 1) 65535
            failedSingles :=
              if m = .single then min (s.bi.stats.failedSingles + 1) 65535 else s.bi.stats.failedSingles } ∧
          (s.bi.failRun < 15 → t.bi.txState = .enabled) ∧
          (s.bi.failRun = 15 →
            t.bi.txState = .mute ∧ t.bi.mute = .running (s.now + 2 * s.roundTicks) ∧
              (s.pins.resetAsserted = false →
                t.hasEvent .bus = true ∧ t.lp.busCauses = s.lp.busCauses ||| 1#8)))) ∧
    (∀ again e, x.stopped = none → s.bi.kinds.at k = .sending m again → s.removalDue = false → k ≠ .leave →
      e =
        (match again with
         | none => .empty
         | some m' => .pending m') →
      ∃ t, exec .transmitSuccess s = .next t ∧ t.bi.tx = none ∧ t.bi.failRun = 0 ∧
        t.bi.stats = { s.bi.stats with sent := min (s.bi.stats.sent + 1) 65535 } ∧
        t.ro = { s.ro with selfSilence := 0, sentMark := true, selfStale := false } ∧ t.lc = s.lc ∧
        (k ≠ .claim → t.bi.kinds.at k = e) ∧
        (s.claimsAgain = false → t.bi.kinds.at k = e ∧ t.ps = s.ps ∧ t.bu = s.bu) ∧
        (s.claimsAgain = true →
          t.ps.power = .claiming ∧ t.ps.pendingOn = false ∧
            t.ps.level = (if s.ps.shedHold.isRunning || s.thermalCritical then .floor else s.ps.desired) ∧
            t.ps.holdOff = .running (s.now + s.lc.keys.holdOff * s.roundTicks) ∧
            (∃ c, t.ownClaim = some c ∧ c.level = t.ps.level) ∧
            (s.ownClaim = none → s.takesPosts = true →
              t.bi.kinds.claim = (if k = .claim then e else s.bi.kinds.claim).post .retry) ∧
            (s.pins.resetAsserted = false → t.hasEvent .power = true ∧ t.lp.powerCause = .request))) ∧
    (x.stopped = none → k = .leave → s.inLife .removable = true → s.waiting = false →
      s.lc.leaveOutcome = .pending →
      ∃ t, exec .transmitSuccess s = .next t ∧ t.bi.tx = none ∧ t.lc = { s.lc with leaveOutcome := .sent })) ∧
  (∀ (s : State) (x : Tx) (pre post : List LaneEntry) (e : LaneEntry), s.bi.tx = some x → x.ref = .lane →
    x.doomed = false → s.bi.lanes = pre ++ e :: post → e.sending = true → (∀ y ∈ pre ++ post, y.sending = false) →
    (∀ how, x.stopped = some how → s.bi.pulse.isRunning = false → s.inLife .active = true →
      s.bi.txState = .enabled → s.waiting = false → s.lc.phase = .noRemoval →
      ∃ t, exec (.busIdle true) s = .next t ∧ t.bi.tx = none ∧
        t.bi.lanes = pre ++ { e with sending := false } :: post ∧ t.lb = s.lb ∧ t.lm.lanes = s.lm.lanes ∧
        t.lm.queue = s.lm.queue ∧
        (e.kind = .grant → t.holder e.target = { s.holder e.target with inFlight := false })) ∧
    (x.stopped = none → s.removalDue = false → s.bi.lanes.length ≤ 4 → s.takesPosts = true →
      ∃ t, exec .transmitSuccess s = .next t ∧ t.bi.tx = none ∧ t.bi.failRun = 0 ∧ t.lm.lanes = s.lm.lanes ∧
        t.ro = { s.ro with selfSilence := 0, sentMark := true, selfStale := false } ∧
        (s.claimsAgain = false → t.ps = s.ps) ∧
        (s.claimsAgain = true → t.ps.power = .claiming ∧ t.ps.pendingOn = false) ∧
        (e.kind = .grant → s.isRole .uplink = true → s.lm.sound = true →
          (t.holder e.target).inFlight = false ∧
            ((s.holder e.target).inFlight = true → (t.holder e.target).answer = none) ∧
            ((s.holder e.target).inFlight = false →
              (t.holder e.target).answer = (s.holder e.target).answer ∧
                ((s.holder e.target).answer.isSome = true →
                  (∃ y ∈ t.bi.lanes, y.target = e.target) ∨ (t.holder e.target).notify = true)) ∧
            ((∀ p ∈ s.lm.holders, p.2.notify = false) →
              t.bi.lanes = pre ++ post ++
                (if (s.holder e.target).inFlight = false ∧ (s.holder e.target).answer.isSome = true ∧
                    (∀ y ∈ pre ++ post, y.kind = .grant → y.target ≠ e.target) then
                  [{ kind := .grant, target := e.target, sending := false }]
                 else [])) ∧
            (∀ n h, slotGet s.lm.holders n = some h → h.notify = true → n ≠ e.target →
              (∀ p ∈ s.lm.holders, p.2.notify = true → n ≤ p.1) →
              (∃ y ∈ t.bi.lanes, y.target = n) ∧
                ((∀ y ∈ pre ++ post, y.target ≠ n) → (t.holder n).notify = false))) ∧
        (e.kind = .release → s.isRole .blade = true → slotWf s.lb = true →
          ∀ r, slotGet s.lb e.target = some r →
            (r.pending = 0 → r.held = 0 → slotGet t.lb e.target = none) ∧
              ((0 < r.pending ∨ r.held ≠ 0) →
                ∃ r', slotGet t.lb e.target = some r' ∧
                  { r' with notify := r.notify } = { r with release := false, sent := true })) ∧
        (e.kind = .request → s.isRole .blade = true →
          ∀ u r, slotGet s.lb u = some r →
            ∃ r', slotGet t.lb u = some r' ∧ { r' with notify := r.notify } = r))) ∧
  ∀ (s : State) (x : Tx) (m : MailEntry) (rest : List MailEntry), s.bi.tx = some x → x.ref = .mail →
    x.mode = m.mode → x.doomed = false → s.bi.mails = m :: rest → m.sending = true →
    (∀ y ∈ rest, y.sending = false) → m.box < 2 → s.lp.statusOf m.box ≠ .unused →
    (x.stopped = none → s.removalDue = false →
      ∃ t, exec .transmitSuccess s = .next t ∧ t.bi.tx = none ∧ t.bi.failRun = 0 ∧ t.bi.mails = rest ∧
        t.ro = { s.ro with selfSilence := 0, sentMark := true, selfStale := false } ∧
        (s.claimsAgain = false → t.ps = s.ps) ∧
        (s.claimsAgain = true → t.ps.power = .claiming ∧ t.ps.pendingOn = false) ∧
        t.lp.statusOf m.box = .sent ∧ t.lp.lastFinal = m.box ∧
        t.lp.statusOf (1 - m.box) = s.lp.statusOf (1 - m.box)) ∧
    (∀ how, x.stopped = some how → s.bi.pulse.isRunning = false → s.inLife .active = true →
      s.bi.txState = .enabled → s.waiting = false → s.lc.phase = .noRemoval →
      ∃ t, exec (.busIdle true) s = .next t ∧ t.bi.tx = none ∧
        t.lp.statusOf (1 - m.box) = s.lp.statusOf (1 - m.box) ∧
        (x.shedSeen = false → how = .mismatch → m.mode = .single →
          t.bi.mails = rest ∧ t.lp.statusOf m.box = .failed ∧ t.lp.lastFinal = m.box ∧
            t.bi.stats.failedSingles = min (s.bi.stats.failedSingles + 1) 65535) ∧
        ((x.shedSeen = true ∨ how = .arbitration ∨ m.mode = .retry) →
          t.bi.mails = { m with sending := false } :: rest ∧ t.lp.statusOf m.box = .pending ∧
            t.lp.lastFinal = s.lp.lastFinal ∧ t.bi.stats.failedSingles = s.bi.stats.failedSingles))

/-- Interval timer A expires: it runs on in phase, the round count rises and wraps at 16 bits, the identity count rises or
returns to 0, and ANNOUNCE, a supply's CAPACITY, a FAN station's FANSTAT and, at the identity repeat, JOIN are posted as
SINGLE, each counted late where it finds its entry PENDING (R32, R33, R52). Timer B runs on too; a station with an own demand
that is no FAN posts THERMAL so (R34, R133). MUTE ends with the failure run at 0 (R36). At a round in ACTIVE the queued
requests of an uplink age, and heads that cannot be served and have waited to the limit are removed with DENIED, NO_LANES
(R151, R154); a blade posts LANE_REQUEST again for every pending count, never twice (R166).
Rests on the model's choices of log entry 1. -/
def Obligations.IntervalTimersRunOn : Prop :=
  ∀ (s : State) (due : Nat), s.lc.phase = .noRemoval →
    (s.bi.timerA = .running due →
      ∃ t, exec .round s = .next t ∧ t.bi.timerA = .running (due + s.roundTicks) ∧ t.bi.timerB = s.bi.timerB ∧
        t.ro = { s.ro with roundCount := (s.ro.roundCount + 1) % 65536 } ∧
        t.bi.identityCount =
          (if s.lc.keys.identityRepeat ≤ min (s.bi.identityCount + 1) 255 then 0
           else min (s.bi.identityCount + 1) 255) ∧
        t.sm = s.sm ∧ t.sup = s.sup ∧ t.fc = s.fc ∧ t.pins = s.pins ∧
        (s.takesPosts = true → s.role ≠ none → s.bi.idle = false →
          t.bi.kinds.announce = s.bi.kinds.announce.post .single ∧
            t.bi.kinds.capacity =
              (if s.isRole .power then s.bi.kinds.capacity.post .single else s.bi.kinds.capacity) ∧
            t.bi.kinds.fanstat = (if s.isRole .fan then s.bi.kinds.fanstat.post .single else s.bi.kinds.fanstat) ∧
            t.bi.kinds.join =
              (if s.lc.keys.identityRepeat ≤ min (s.bi.identityCount + 1) 255 then s.bi.kinds.join.post .single
               else s.bi.kinds.join) ∧
            t.bi.kinds.thermal = s.bi.kinds.thermal ∧ t.bi.kinds.leave = s.bi.kinds.leave) ∧
        (s.takesPosts = true → s.bi.stats.latePeriodics ≤ 65535 →
          t.bi.stats = { s.bi.stats with
            latePeriodics := min 65535 (s.bi.stats.latePeriodics + (s.bi.kinds.announce.isPending).toNat +
              (s.isRole .power && s.bi.kinds.capacity.isPending).toNat +
              (s.isRole .fan && s.bi.kinds.fanstat.isPending).toNat +
              (decide (s.lc.keys.identityRepeat ≤ min (s.bi.identityCount + 1) 255) &&
                s.bi.kinds.join.isPending).toNat) }) ∧
        (s.isRole .uplink = true → s.inLife .active = true →
          (∀ q ∈ t.lm.queue, ∃ p ∈ s.lm.queue, q = { p with age := min (p.age + 1) 255 }) ∧
            (∀ q ∈ s.lm.queue.head?, s.servable q = true → t.lm.queue.length < s.lm.queue.length) ∧
            ((∀ q ∈ s.lm.queue, s.servable q = false) →
              t.lm.lanes = s.lm.lanes ∧ t.lm.reservation = s.lm.reservation ∧
                t.lm.queue = (s.lm.queue.map (fun q => { q with age := min (q.age + 1) 255 })).dropWhile
                  (fun q => decide (s.lc.keys.queueWait ≤ q.age)) ∧
                ∀ q ∈ s.lm.queue.takeWhile (fun q => decide (s.lc.keys.queueWait ≤ min (q.age + 1) 255)),
                  (t.holder q.slot).answer = some { outcome := .denied, reason := .noLanes })) ∧
        (s.isRole .blade = true → s.inLife .active = true →
          ∀ u r, slotGet s.lb u = some r → 0 < r.pending →
            (∃ r', slotGet t.lb u = some r' ∧ { r' with notify := r.notify } = r ∧
              (s.takesPosts = true → s.bi.idle = false → t.hasPending .request u = true ∨ r'.notify = true)) ∧
              (s.hasPending .request u = true →
                (t.bi.lanes.filter (fun e => e.kind == .request && e.target == u)).length =
                  (s.bi.lanes.filter (fun e => e.kind == .request && e.target == u)).length))) ∧
    (s.bi.timerB = .running due → s.isRole .fan = false →
      ∃ t, exec .beat s = .next t ∧ t.bi.timerB = .running (due + s.beatTicks) ∧ t.bi.timerA = s.bi.timerA ∧
        t.ro = s.ro ∧ t.fc = s.fc ∧ t.sm = s.sm ∧ t.bu = s.bu ∧ t.ps = s.ps ∧
        (s.takesPosts = true → s.bi.idle = false →
          t.bi.kinds = { s.bi.kinds with
            thermal := if s.sm.ownDemand.isSome then s.bi.kinds.thermal.post .single else s.bi.kinds.thermal }) ∧
        (s.takesPosts = true → s.bi.stats.latePeriodics ≤ 65535 →
          t.bi.stats = { s.bi.stats with
            latePeriodics := min 65535
              (s.bi.stats.latePeriodics + (s.sm.ownDemand.isSome && s.bi.kinds.thermal.isPending).toNat) })) ∧
    (s.bi.mute = .running due → s.bi.txState = .mute →
      ∃ t, exec .muteEnd s = .next t ∧ t.bi.txState = .enabled ∧ t.bi.failRun = 0 ∧ t.bi.mute = .stopped 0 ∧
        t.ro = s.ro ∧ t.bu = s.bu ∧ t.ps = s.ps ∧ t.sup = s.sup ∧ t.sm = s.sm ∧ t.fc = s.fc ∧ t.lc = s.lc)

/-! ## Supplies, sensors, fans -/

/-- A supply: POWER_OFF with the output high starts the drain of two rounds, OFFLINE and with no capacity reported; its end
takes PWR_EN low, and completes a removal under way; POWER_ON takes it high again (R113 to R115, R177). The overload guard
ends with a new pulse where the overload still stands (R117); a pulse ends after its 24 bit times (R37).
Rests on the model's choices of log entries 1 and 16. -/
def Obligations.SupplyDrainsGuardsAndPulses : Prop :=
  ∀ (s : State) (due : Nat), s.isRole .power = true → s.inLife .active = true →
    (s.accepts .powerOff = true → s.lc.phase = .noRemoval → s.sup.output = true → s.sup.drain.isRunning = false →
      ∃ t, exec .powerOff s = .next t ∧ t.answered .done [] ∧ t.sup.localOff = true ∧ t.sup.state = .offline ∧
        t.sup.reported = 0 ∧ t.sup.overload = 0 ∧ t.pwrEn = true ∧
        t.sup.drain = .running (s.now + 2 * s.roundTicks) ∧ t.ro = s.ro ∧ t.ps = s.ps ∧ t.sm = s.sm) ∧
    (s.sup.drain = .running due → s.lc.phase = .noRemoval →
      ∃ t, exec .drainEnd s = .next t ∧ t.pwrEn = false ∧ t.lc = s.lc ∧ t.ro = s.ro ∧ t.bu = s.bu ∧ t.ps = s.ps ∧
        t.sup = { s.sup with drain := .stopped 0, output := false } ∧
        (s.pins.resetAsserted = false → t.hasEvent .power = true ∧ t.lp.powerCause = .drained)) ∧
    (s.sup.drain = .running due → s.lc.phase = .poweringDown → s.waiting = false →
      ∃ t, exec .drainEnd s = .next t ∧ t.inLife .removable = true ∧ t.lc.phase = .removableActive ∧
        t.lc.leaveOutcome = .pending ∧ t.bi.txState = .off ∧ t.pwrEn = false ∧ t.ro = s.ro ∧ t.bu = s.bu) ∧
    (s.accepts .powerOn = true → s.lc.phase = .noRemoval → (s.sup.output = false ∨ s.sup.localOff = true) →
      ∃ t, exec .powerOn s = .next t ∧ t.answered .done [] ∧ t.pwrEn = true ∧ t.ro = s.ro ∧ t.bu = s.bu ∧
        t.sup = { s.sup with localOff := false, drain := .stopped 0, output := true } ∧
        (s.pins.resetAsserted = false → t.hasEvent .power = true ∧ t.lp.powerCause = .request)) ∧
    (s.sup.guard = .running due → s.sup.overload < 3 →
      ∃ t, exec .overloadGuardEnd s = .next t ∧ t.sup = { s.sup with guard := .stopped 0 } ∧ t.ro = s.ro ∧
        t.bi.pulse = s.bi.pulse) ∧
    (s.sup.guard = .running due → s.sup.overload = 3 →
      ∃ t, exec .overloadGuardEnd s = .next t ∧ t.bi.pulse = .running (max s.now due + 24 * s.bitTicks) ∧
        t.bi.idle = false ∧ t.ro = s.ro ∧
        t.sup = { s.sup with
          guard := .running (max s.now due + s.lc.keys.shedHoldoff * s.roundTicks), overload := 0 } ∧
        (s.pins.resetAsserted = false → t.hasEvent .overload = true)) ∧
    (s.bi.pulse = .running due →
      exec .shedPulseEnd s =
        .next { s with now := max s.now due, bi := { s.bi with pulse := .stopped 0 } })

/-- A conversion of a T channel: the reading, the real-time status by limit and hysteresis, the critical and the
shutdown condition, the latched status; only this channel changes, and the next follows 8 ms later (R121, R122, R125,
R127 to R129). The channel demand follows the reading by target and span (R131); the own demand is the largest channel
demand and the hottest reading the highest valid one among the channels with a target (R132). A consumer drops to FLOOR as a critical condition is entered and goes to FAULT as a shutdown is (R96,
R97). Rests on the model's choices of log entries 1 and 45. -/
def Obligations.TConversionJudgesChannel : Prop :=
  ∀ (s : State) (due k : Nat) (diode : Option Int) (volts : Int), s.sm.conversion = .running due → s.sm.next = k →
    k < 4 →
    ∃ t, exec (.conversionEnd diode volts) s = .next t ∧ t.sm.next = k + 1 ∧ t.ro = s.ro ∧ t.pins = s.pins ∧
      t.sm.conversion = .running (max s.now due + 200000) ∧ t.sm.v = s.sm.v ∧
      (∀ j, j < 4 → j ≠ k → t.sm.t.at j = s.sm.t.at j) ∧
      (t.sm.t.at k).overLimit = (s.sm.t.at k).overLimit ∧ (t.sm.t.at k).hysteresis = (s.sm.t.at k).hysteresis ∧
      (t.sm.t.at k).critLimit = (s.sm.t.at k).critLimit ∧ (t.sm.t.at k).shutLimit = (s.sm.t.at k).shutLimit ∧
      (t.sm.t.at k).latched = ((s.sm.t.at k).latched || ((t.sm.t.at k).out && !(s.sm.t.at k).out)) ∧
      (diode = none →
        (t.sm.t.at k).reading = .invalid ∧ (t.sm.t.at k).out = true ∧ (t.sm.t.at k).critical = true ∧
          (t.sm.t.at k).shutdown = (s.sm.t.at k).shutdown) ∧
      (∀ d c, diode = some d → c = max (-40) (min 150 d) →
        (t.sm.t.at k).reading = .deg c ∧
          ((t.sm.t.at k).out = true ↔
            (s.sm.t.at k).overLimit < c ∨ ((s.sm.t.at k).hysteresis ≤ c ∧ (s.sm.t.at k).out = true)) ∧
          ((t.sm.t.at k).critical = true ↔
            (s.sm.t.at k).critLimit < c ∨
              ((s.sm.t.at k).critLimit - ((s.sm.t.at k).overLimit - (s.sm.t.at k).hysteresis) ≤ c ∧
                (s.sm.t.at k).critical = true)) ∧
          ((t.sm.t.at k).shutdown = true ↔
            (s.sm.t.at k).shutLimit < c ∨
              ((s.sm.t.at k).shutLimit - ((s.sm.t.at k).overLimit - (s.sm.t.at k).hysteresis) ≤ c ∧
                (s.sm.t.at k).shutdown = true))) ∧
      (s.lc.keys.demandTarget.at k = none → (t.sm.t.at k).demand = none) ∧
      (∀ g, s.lc.keys.demandTarget.at k = some g →
        (diode = none → (t.sm.t.at k).demand = some 100) ∧
          (∀ d c, diode = some d → c = max (-40) (min 150 d) →
            (t.sm.t.at k).demand =
              some (if c ≤ g then 20 else min 100 (20 + (80 * (c - g)).toNat / s.lc.keys.demandSpan.at k)))) ∧
      ((∀ j, j < 4 → s.lc.keys.demandTarget.at j = none) → t.sm.ownDemand = none ∧ t.sm.hottest = none) ∧
      ((∃ j, j < 4 ∧ s.lc.keys.demandTarget.at j ≠ none) →
        ∃ m h, t.sm.ownDemand = some m ∧ t.sm.hottest = some h ∧
          (∃ j, j < 4 ∧ s.lc.keys.demandTarget.at j ≠ none ∧ (t.sm.t.at j).demand.getD 0 = m) ∧
          (∃ j, j < 4 ∧ s.lc.keys.demandTarget.at j ≠ none ∧ (t.sm.t.at j).reading = h) ∧
          ∀ j, j < 4 → s.lc.keys.demandTarget.at j ≠ none →
            (t.sm.t.at j).demand.getD 0 ≤ m ∧
              ∀ c, (t.sm.t.at j).reading = .deg c → ∃ b, h = .deg b ∧ c ≤ b) ∧
      ((s.sm.t.at k).out = false → (t.sm.t.at k).out = true → s.pins.resetAsserted = false →
        t.hasEvent .sensor = true) ∧
      (s.consumer = true → s.inLife .active = true → (s.ps.power = .enabling ∨ s.ps.power = .on) →
        s.ps.level = .full → (s.sm.t.at k).critical = false → (t.sm.t.at k).critical = true → t.ps.level = .floor) ∧
      (s.consumer = true → s.inLife .active = true → (s.sm.t.at k).shutdown = false →
        (t.sm.t.at k).shutdown = true →
        t.ps.power = .fault ∧ t.ps.reason = .overtemp ∧ t.ownClaim = none)

/-- A conversion of a V channel judges it by its window (R121, R122, R126, R127). In POWER role in ACTIVE, with no removal
begun and not switched off, the supply is evaluated after it: FAILED without POWER_GOOD or with V2 out, WARM with T0 out or
INVALID, else GOOD, and its capacity follows (R109, R110); V3 stores the load and counts the overload, and the third in a row
starts a shed pulse and the guard unless the guard runs (R116). Rests on the model's choices of log entry 1. -/
def Obligations.VConversionJudgesChannelAndSupply : Prop :=
  ∀ (s : State) (due k : Nat) (diode : Option Int) (volts : Int), s.sm.conversion = .running due →
    s.sm.next = k + 4 → k < 4 →
    ∃ t, exec (.conversionEnd diode volts) s = .next t ∧ t.sm.next = (k + 5) % 8 ∧ t.ro = s.ro ∧ t.pins = s.pins ∧
      t.sm.conversion = .running (max s.now due + 200000) ∧ t.sm.t = s.sm.t ∧
      (∀ j, j < 4 → j ≠ k → t.sm.v.at j = s.sm.v.at j) ∧
      (t.sm.v.at k).high = (s.sm.v.at k).high ∧ (t.sm.v.at k).low = (s.sm.v.at k).low ∧
      (t.sm.v.at k).reading = (max 0 (min 1500 volts)).toNat ∧
      ((t.sm.v.at k).out = true ↔
        (s.sm.v.at k).high < max 0 (min 1500 volts) ∨ max 0 (min 1500 volts) < (s.sm.v.at k).low) ∧
      (t.sm.v.at k).latched = ((s.sm.v.at k).latched || ((t.sm.v.at k).out && !(s.sm.v.at k).out)) ∧
      ((s.sm.v.at k).out = false → (t.sm.v.at k).out = true → s.pins.resetAsserted = false →
        t.hasEvent .sensor = true) ∧
      (s.isRole .power = true → s.inLife .active = true → s.lc.phase = .noRemoval → s.sup.localOff = false →
        (s.pins.powerGood = false ∨ (t.sm.v.at 2).out = true → t.sup.state = .failed ∧ t.sup.reported = 0) ∧
        (s.pins.powerGood = true → (t.sm.v.at 2).out = false →
          (((t.sm.t.at 0).out = true ∨ (t.sm.t.at 0).reading = .invalid) →
            t.sup.state = .warm ∧ t.sup.reported = s.lc.keys.rating * 75 / 100) ∧
          ((t.sm.t.at 0).out = false → (t.sm.t.at 0).reading ≠ .invalid →
            t.sup.state = .good ∧ t.sup.reported = s.lc.keys.rating))) ∧
      (s.isRole .power = true → s.inLife .active = true → k = 3 →
        t.sup.load = (t.sm.v.at 3).reading ∧
          ((t.sup.reported = 0 ∨ (t.sm.v.at 3).reading ≤ t.sup.reported) →
            t.sup.overload = 0 ∧ t.sup.guard = s.sup.guard ∧ t.bi.pulse = s.bi.pulse) ∧
          (0 < t.sup.reported → t.sup.reported < (t.sm.v.at 3).reading →
            ((s.sup.overload < 2 ∨ s.sup.guard.isRunning = true) →
              t.sup.overload = min (s.sup.overload + 1) 3 ∧ t.sup.guard = s.sup.guard ∧ t.bi.pulse = s.bi.pulse) ∧
            (2 ≤ s.sup.overload → s.sup.guard.isRunning = false →
              t.sup.overload = 0 ∧ t.bi.pulse = .running (max s.now due + 24 * s.bitTicks) ∧ t.bi.idle = false ∧
                t.sup.guard = .running (max s.now due + s.lc.keys.shedHoldoff * s.roundTicks) ∧
                (s.pins.resetAsserted = false → t.hasEvent .overload = true)))) ∧
      (s.isRole .power = false → t.sup = s.sup ∧ t.bu = s.bu)

/-- A FAN station: a THERMAL enters its view afresh and never lowers the duty (R136, R141); an edge gives a rotor its period
(R143). A beat ages the view (R138); judges each fitted rotor STALL, SLOW or good and moves its runs, three in a row failing
or recovering it (R144, R145); stores the target, the largest fresh demand or 100, and the compensated duty, 10 more for each
fitted rotor failed and 100 at most, and applies it at once upwards and by at most 5 downwards (R140); and judges the
sustained count and flag (R146). A rotor or the flag that changes posts FANSTAT and latches FAN (R145, R146). In REMOVABLE
a beat judges the rotors, with duty and sustained state held (R139).
Rests on the model's choices of log entries 1 and 29. -/
def Obligations.FanTakesThermalEdgesAndBeats : Prop :=
  ∀ s : State, s.isRole .fan = true →
    (∀ (src : BitVec 6) (p : List Byte) (e : RosterEntry), s.hears src = true →
      slotGet s.ro.entries src.toNat = some e → p.length = 3 →
      ∃ t, exec (.thermalReceived src p) s = .next t ∧
        slotGet t.fc.view src.toNat =
          some { demand := max 20 (min 100 (byteAt p 0)), hottest := (readThermal p).2, age := 0 } ∧
        (∀ n, n ≠ src.toNat → slotGet t.fc.view n = slotGet s.fc.view n) ∧ t.fc.rotors = s.fc.rotors ∧
        s.heardFrom t src.toNat (some { e with silence := 0 }) ∧
        (s.inLife .active = true →
          s.fc.applied ≤ t.fc.applied ∧ max 20 (min 100 (byteAt p 0)) ≤ t.fc.applied)) ∧
    (∀ rotor moment, rotor < s.lc.keys.rotorsFitted → rotor < 4 →
      ∃ t, exec (.tachEdge rotor moment) s = .next t ∧
        t = { s with now := max s.now moment, fc := { s.fc with rotors := t.fc.rotors } } ∧
        (∀ j, j < 4 → j ≠ rotor → t.fc.rotors.at j = s.fc.rotors.at j) ∧
        t.fc.rotors.at rotor =
          { s.fc.rotors.at rotor with
            lastEdge := some (max s.now moment)
            period :=
              (match (s.fc.rotors.at rotor).lastEdge with
               | some e => some (min 1000000 ((max s.now moment - e) / 25))
               | none => (s.fc.rotors.at rotor).period) }) ∧
    (∀ due, s.bi.timerB = .running due → s.inLife .active = true →
      ∃ t, exec .beat s = .next t ∧ t.bi.timerB = .running (due + s.beatTicks) ∧ t.ro = s.ro ∧ t.sm = s.sm ∧
        t.ps = s.ps ∧ t.lc = s.lc ∧ s.fc.applied ≤ t.fc.applied + 5 ∧
        (∀ n e, slotGet s.fc.view n = some e →
          slotGet t.fc.view n = some { e with age := min (e.age + 1) 255 }) ∧
        (∀ k, k < 4 → s.lc.keys.rotorsFitted ≤ k → t.fc.rotors.at k = s.fc.rotors.at k) ∧
        (∀ k elapsed period, k < s.lc.keys.rotorsFitted → k < 4 →
          elapsed = max s.now due - (s.fc.rotors.at k).lastEdge.getD s.fc.settledAt →
          period = max elapsed ((s.fc.rotors.at k).period.getD 0 * 25) →
          (25000000 ≤ elapsed →
            t.fc.rotors.at k = { s.fc.rotors.at k with
              badRun := min ((s.fc.rotors.at k).badRun + 1) 3
              goodRun := 0
              lastBad := .stall
              failed := (s.fc.rotors.at k).failed || decide (2 ≤ (s.fc.rotors.at k).badRun) }) ∧
          (elapsed < 25000000 → s.lc.keys.tachLimit * 25 < period →
            t.fc.rotors.at k = { s.fc.rotors.at k with
              badRun := min ((s.fc.rotors.at k).badRun + 1) 3
              goodRun := 0
              lastBad := .slow
              failed := (s.fc.rotors.at k).failed || decide (2 ≤ (s.fc.rotors.at k).badRun) }) ∧
          (elapsed < 25000000 → period ≤ s.lc.keys.tachLimit * 25 →
            t.fc.rotors.at k = { s.fc.rotors.at k with
              badRun := 0
              goodRun := min ((s.fc.rotors.at k).goodRun + 1) 3
              failed := (s.fc.rotors.at k).failed && decide ((s.fc.rotors.at k).goodRun < 2) })) ∧
        (∀ demands comp,
          demands = ((t.fc.view.filter (fun p => decide (p.2.age < 4))).map (·.2.demand)) ++
            (if s.lc.keys.ownDemandCounts then s.sm.ownDemand.toList else []) →
          comp = min 100 (t.fc.lastTarget.getD 0 + 10 *
            ((List.range 4).filter (fun k =>
              decide (k < s.lc.keys.rotorsFitted) && (t.fc.rotors.at k).failed)).length) →
          t.fc.lastTarget = some (if demands = [] then 100 else demands.foldl max 0) ∧
            t.fc.lastComp = some comp ∧
            t.fc.applied = (if s.fc.applied ≤ comp then comp else max comp (s.fc.applied - 5)) ∧
            t.pwm = t.fc.applied) ∧
        t.fc.sustained =
          (if t.fc.applied = 100 ∧ t.fc.lastTarget = some 100 then min (s.fc.sustained + 1) 65535 else 0) ∧
        t.fc.sustainedFlag =
          (if s.fc.sustainedFlag then decide (90 < t.fc.lastTarget.getD 0)
           else decide (s.lc.keys.sustainLimit ≤ t.fc.sustained)) ∧
        (∀ rotor flag,
          rotor = (s.fc.rotors.map (·.failed) != t.fc.rotors.map (·.failed)) →
          flag = (s.fc.sustainedFlag != t.fc.sustainedFlag) →
          (s.takesPosts = true → s.bi.idle = false →
            t.bi.kinds.fanstat =
              (if rotor || flag then s.bi.kinds.fanstat.post .retry else s.bi.kinds.fanstat)) ∧
          (s.pins.resetAsserted = false →
            t.lp.fanCauses = s.lp.fanCauses ||| (if rotor then 1#8 else 0#8) ||| (if flag then 2#8 else 0#8) ∧
              (rotor || flag → t.hasEvent .fan = true)))) ∧
    (∀ due, s.bi.timerB = .running due → s.inLife .removable = true →
      ∃ t, exec .beat s = .next t ∧ t.fc.applied = s.fc.applied ∧ t.fc.sustained = s.fc.sustained ∧
        t.fc.sustainedFlag = s.fc.sustainedFlag ∧ t.bi.timerB = .running (due + s.beatTicks) ∧
        ∀ k, k < s.lc.keys.rotorsFitted → k < 4 →
          25000000 ≤ max s.now due - (s.fc.rotors.at k).lastEdge.getD s.fc.settledAt →
          (t.fc.rotors.at k).lastBad = .stall ∧
            (2 ≤ (s.fc.rotors.at k).badRun → (t.fc.rotors.at k).failed = true))

/-! ## Uplink lanes -/

/-- At an uplink in ACTIVE a LANE_REQUEST is denied by state, level, requester and limit (STOPPING, NO_POWER, NOT_POWERED,
LIMIT), appended behind a reservation in flight, or served at once (R152, R153): the lowest-numbered FREE lanes become
RESERVED and the claim carries them as a raise of LM's where it is admitted so, and where it is not the lanes are FREE again,
and the slot is denied with NO_POWER if the claim without them is admitted. A LANE_RELEASE puts the slot's lanes to DRAINING
and answers RELEASED (R158). A removal report leaves the slot no lane, request, reservation or answer (R51, R163), and an
ANNOUNCE that leaves ON no lane, request or reservation, with REVOKED, DENIED or RELEASED as answer (R156, R159). Its own shed
frees every lane in use, with REVOKED and DENIED answers (R160). Rests on the model's choices of log entries 18 and 57 (a request or
reservation beside DRAINING lanes). -/
def Obligations.UplinkAnswersLaneFrames : Prop :=
  (∀ (src : BitVec 6) (p : List Byte) (s : State) (e : RosterEntry), s.isRole .uplink = true →
    s.inLife .active = true → s.lc.phase = .noRemoval → s.hears src = true →
    slotGet s.ro.entries src.toNat = some e → e.role = .blade → targetSlot p = s.ownSlot →
    (p.length = 2 → (s.holder src.toNat).answer = none → s.isReserving src.toNat = false →
      (s.ps.power = .stopping →
        ∃ t, exec (.laneRequestReceived src p) s = .next t ∧ t.lm.queue = s.lm.queue ∧ t.lm.lanes = s.lm.lanes ∧
          (t.holder src.toNat).answer = some { outcome := .denied, reason := .stopping }) ∧
      (s.ps.power ≠ .stopping →
        (s.ps.power ≠ .on ∨ s.ps.level = .floor ∨ s.ps.shedHold.isRunning = true) →
        ∃ t, exec (.laneRequestReceived src p) s = .next t ∧ t.lm.queue = s.lm.queue ∧ t.lm.lanes = s.lm.lanes ∧
          (t.holder src.toNat).answer = some { outcome := .denied, reason := .noPower }) ∧
      (s.ps.power = .on → s.ps.level = .full → s.ps.shedHold.isRunning = false → s.isQueued src.toNat = false →
        (e.power ≠ some .on → s.lm.queue = [] →
          ∃ t, exec (.laneRequestReceived src p) s = .next t ∧ t.lm.queue = [] ∧ t.lm.lanes = s.lm.lanes ∧
            (t.holder src.toNat).answer = some { outcome := .denied, reason := .notPowered }) ∧
        (e.power = some .on → 4 < lanesOf s.lm.lanes src.toNat + max 1 (min 4 (byteAt p 1)) → s.lm.queue = [] →
          ∃ t, exec (.laneRequestReceived src p) s = .next t ∧ t.lm.queue = [] ∧ t.lm.lanes = s.lm.lanes ∧
            (t.holder src.toNat).answer = some { outcome := .denied, reason := .limit }) ∧
        (e.power = some .on → lanesOf s.lm.lanes src.toNat + max 1 (min 4 (byteAt p 1)) ≤ 4 →
          (s.lm.reservation ≠ none → s.lm.queue.length < 8 →
            ∃ t, exec (.laneRequestReceived src p) s = .next t ∧ t.lm.lanes = s.lm.lanes ∧
              t.lm.queue = s.lm.queue ++ [{ slot := src.toNat, count := max 1 (min 4 (byteAt p 1)), age := 0 }]) ∧
          (∀ free count u, s.lm.reservation = none → s.lm.queue = [] → count = max 1 (min 4 (byteAt p 1)) →
            (∀ q ∈ s.lm.lanes, ∀ n, q.2 ≠ .reserved n) →
            free = (List.range 16).filter (fun k => slotGet s.lm.lanes k = none) → count ≤ free.length →
            u = s.claimedAt
              (max 1 (s.lc.keys.baseAmount + s.lc.keys.laneCost * (lanesInUse s.lm.lanes + count))) .full →
            (u.ownMark = true →
              ∃ t c, exec (.laneRequestReceived src p) s = .next t ∧ t.lm.queue = [] ∧
                t.lm.reservation =
                  some { slot := src.toNat, hold := .running (s.now + s.lc.keys.holdOff * s.roundTicks) } ∧
                (∀ k ∈ free.take count,
                  slotGet t.lm.lanes k = some (.reserved src.toNat) ∧ t.laneEn k = false) ∧
                (∀ k, k ∉ free.take count → slotGet t.lm.lanes k = slotGet s.lm.lanes k) ∧
                t.ps = { s.ps with raise := .lanes } ∧ t.ownClaim = some c ∧ c.admitted = true ∧
                c.amount =
                  max 1 (s.lc.keys.baseAmount + s.lc.keys.laneCost * (lanesInUse s.lm.lanes + count))) ∧
            (u.ownMark = false →
              ∃ t, exec (.laneRequestReceived src p) s = .next t ∧ t.lm.queue = [] ∧ t.lm.reservation = none ∧
                ((u.claimedAt
                    (max 1 (s.lc.keys.baseAmount + s.lc.keys.laneCost * lanesInUse s.lm.lanes))
                    .full).ownMark = true →
                  (∀ k, slotGet t.lm.lanes k = slotGet s.lm.lanes k) ∧ t.ps = { s.ps with raise := .noRaise } ∧
                    (t.holder src.toNat).answer = some { outcome := .denied, reason := .noPower }) ∧
                ((u.claimedAt
                    (max 1 (s.lc.keys.baseAmount + s.lc.keys.laneCost * lanesInUse s.lm.lanes))
                    .full).ownMark = false →
                  t.ps.level = .floor ∧ lanesInUse t.lm.lanes = 0)))))) ∧
    (p.length = 1 → s.lm.queue = [] → s.lc.keys.drain ≠ 0 →
      ∃ t, exec (.laneReleaseReceived src p) s = .next t ∧
        (t.holder src.toNat).answer = some { outcome := .released, reason := .noReason } ∧
        (∀ lane, slotGet s.lm.lanes lane = some (.granted src.toNat) →
          t.laneEn lane = true ∧
            slotGet t.lm.lanes lane =
              some (.draining src.toNat (.running (s.now + s.lc.keys.drain * s.roundTicks)))))) ∧
  (∀ (src : BitVec 6) (p : List Byte) (s : State) (e : RosterEntry), s.isRole .uplink = true →
    s.inLife .active = true → s.lc.phase = .noRemoval → s.hears src = true →
    slotGet s.ro.entries src.toNat = some e → e.role = .blade →
    (p.length = 0 →
      ∃ t, exec (.leaveReceived src p) s = .next t ∧ slotGet t.ro.entries src.toNat = none ∧
        lanesOf t.lm.lanes src.toNat = 0 ∧ t.isQueued src.toNat = false ∧ t.isReserving src.toNat = false ∧
        (t.holder src.toNat).answer = none) ∧
    (p.length = 7 → (readAnnounce p).role = .blade → e.power = some .on → (readAnnounce p).power ≠ .on →
      ∃ t, exec (.announceReceived src p) s = .next t ∧ lanesOf t.lm.lanes src.toNat = 0 ∧
        t.isQueued src.toNat = false ∧ t.isReserving src.toNat = false ∧
        ((readAnnounce p).claim = none → claimOf s.bu.claims src.toNat = none →
          ((∃ lane, (lane, LaneUse.granted src.toNat) ∈ s.lm.lanes) →
            (t.holder src.toNat).answer = some { outcome := .revoked, reason := .notPowered }) ∧
          ((∀ lane, (lane, LaneUse.granted src.toNat) ∉ s.lm.lanes) →
            (s.isQueued src.toNat = true →
              (t.holder src.toNat).answer = some { outcome := .denied, reason := .notPowered }) ∧
            (s.isQueued src.toNat = false → s.isReserving src.toNat = true →
              (t.holder src.toNat).answer = some { outcome := .released, reason := .noReason }))))) ∧
  ∀ s : State, s.isRole .uplink = true → s.inLife .active = true → s.watchesPulses = true →
    s.lc.phase = .noRemoval → s.ps.power = .on → s.ps.level = .full →
    ∃ t, exec .shedDetection s = .next t ∧ t.ps.level = .floor ∧ lanesInUse t.lm.lanes = 0 ∧ t.lm.queue = [] ∧
      t.lm.reservation = none ∧
      (∀ lane n, (lane, LaneUse.granted n) ∈ s.lm.lanes → n < 64 →
        (t.holder n).answer = some { outcome := .revoked, reason := .shed }) ∧
      ((∀ q ∈ s.lm.queue, (∀ lane, (lane, LaneUse.granted q.slot) ∉ s.lm.lanes) →
        (t.holder q.slot).answer = some { outcome := .denied, reason := .noPower })) ∧
      ((s.claimedAt (max 1 s.lc.keys.baseAmount) .floor).ownMark = true → s.droppedTo t s.now .pulse) ∧
      ((s.claimedAt (max 1 s.lc.keys.baseAmount) .floor).ownMark = false → s.switchedOff t s.now .pulse)

/-- The uplink's lane timers and faults, with no request waiting: an admitted reservation becomes GRANTED at its hold-off's
end and the slot is answered, one not admitted is freed (R155); a drain's end frees its lane (R158); SET_LANE_FAULT takes
a FREE lane out of use, revokes a GRANTED one, and returns a FAULTED one (R157). LANE_EN follows (R149).
Rests on the model's choices of log entries 1 and 30. -/
def Obligations.UplinkLanesChangeState : Prop :=
  ∀ s : State, s.isRole .uplink = true → s.inLife .active = true → s.lc.phase = .noRemoval → s.lm.sound = true →
    s.lm.queue = [] →
    (∀ slot due, s.lm.reservation = some { slot := slot, hold := .running due } → s.ownMark = true →
      ∃ t, exec .reservationHoldOffEnd s = .next t ∧ t.lm.reservation = none ∧ t.ps.raise = .noRaise ∧
        t.bu = s.bu ∧ (t.holder slot).answer = some { outcome := .granted, reason := .noReason } ∧
        (∀ lane n, slotGet s.lm.lanes lane = some (.reserved n) →
          slotGet t.lm.lanes lane = some (.granted n) ∧ t.laneEn lane = true)) ∧
    (∀ slot due, s.lm.reservation = some { slot := slot, hold := .running due } → s.ownMark = false →
      ∃ t, exec .reservationHoldOffEnd s = .next t ∧ t.lm.reservation = none ∧
        (∀ lane n, slotGet s.lm.lanes lane = some (.reserved n) →
          slotGet t.lm.lanes lane = none ∧ t.laneEn lane = false)) ∧
    (∀ lane n due, slotGet s.lm.lanes lane = some (.draining n (.running due)) →
      ∃ t, exec (.laneDrainEnd lane) s = .next t ∧ slotGet t.lm.lanes lane = none ∧ t.laneEn lane = false ∧
        (∀ j m, slotGet s.lm.lanes j = some (.granted m) → slotGet t.lm.lanes j = some (.granted m))) ∧
    (∀ lane : Byte, lane.toNat < 16 → s.accepts (.setLaneFault lane 1) = true →
      (slotGet s.lm.lanes lane.toNat = none →
        ∃ t, exec (.setLaneFault lane 1) s = .next t ∧ t.answered .done [] ∧
          slotGet t.lm.lanes lane.toNat = some .faulted ∧ t.laneEn lane.toNat = false ∧ t.ps = s.ps ∧
          t.bu = s.bu) ∧
      (∀ n, slotGet s.lm.lanes lane.toNat = some (.granted n) →
        ∃ t, exec (.setLaneFault lane 1) s = .next t ∧ t.answered .done [] ∧
          slotGet t.lm.lanes lane.toNat = some .faulted ∧ t.laneEn lane.toNat = false ∧
          (t.holder n).answer = some { outcome := .revoked, reason := .laneFault })) ∧
    (∀ lane : Byte, lane.toNat < 16 → s.accepts (.setLaneFault lane 0) = true →
      slotGet s.lm.lanes lane.toNat = some .faulted →
      ∃ t, exec (.setLaneFault lane 0) s = .next t ∧ t.answered .done [] ∧
        slotGet t.lm.lanes lane.toNat = none ∧ t.ps = s.ps ∧ t.bu = s.bu)

/-- A blade's lane record: REQUEST_LANES writes the count, cut to 4, and starts the reply window (R165); the answer closes it
with the held set, a GRANTED that finds no count is given back as late (R167, R168); the window's end closes it as TIMEOUT
(R166); RELEASE_LANES clears it, marks the release and posts a LANE_RELEASE into the next free entry, or flags the record
where the outbox is full (R29, R164, R169). A record whose release has been sent leaves use with its last content (R164), and
the removal report of its uplink takes it away with what it held (R51, R169).
Rests on the model's choices of log entries 1 and 49. -/
def Obligations.BladeLaneRecordFollowsAnswers : Prop :=
  ∀ s : State, s.isRole .blade = true → s.inLife .active = true → s.lc.phase = .noRemoval →
    (∀ (u n : Byte), s.accepts (.requestLanes u n) = true → s.ps.power = .on → u.toNat < 48 →
      u.toNat ≠ s.ownSlot → n ≠ 0 → s.presentAs u.toNat .uplink = true → s.pendingAt u.toNat = 0 →
      s.recordFor u.toNat = true →
      ∃ t r, exec (.requestLanes u n) s = .next t ∧ t.answered .done [BitVec.ofNat 8 (min n.toNat 4)] ∧
        slotGet t.lb u.toNat = some r ∧ r.pending = min n.toNat 4 ∧ r.release = false ∧
        r.window = .running (s.now + s.lc.keys.replyWindow * s.roundTicks) ∧ t.ro = s.ro ∧ t.ps = s.ps ∧
        t.bu = s.bu) ∧
    (∀ (u : Byte), s.accepts (.releaseLanes u) = true → u.toNat < 48 → s.recordFor u.toNat = true →
      ∃ t r, exec (.releaseLanes u) s = .next t ∧ t.answered .done [] ∧ slotGet t.lb u.toNat = some r ∧
        r.held = 0 ∧ r.pending = 0 ∧ r.window = .stopped 0 ∧ r.release = true ∧ t.ro = s.ro ∧ t.ps = s.ps ∧
        t.bu = s.bu ∧
        (s.takesPosts = true → s.bi.idle = false →
          (s.bi.lanes.length < 4 →
            t.bi.lanes = s.bi.lanes ++ [{ kind := .release, target := u.toNat, sending := false }] ∧ r.notify = false) ∧
          (4 ≤ s.bi.lanes.length → t.bi.lanes = s.bi.lanes ∧ r.notify = true))) ∧
    (∀ (u due : Nat) (r : LaneRecord), slotGet s.lb u = some r → r.window = .running due → 0 < r.pending →
      ∃ t, exec (.replyWindowEnd u) s = .next t ∧
        (r.sent = true ∧ r.release = false ∧ r.held = 0 → slotGet t.lb u = none) ∧
        (r.sent = false ∨ r.release = true ∨ r.held ≠ 0 →
          ∃ r', slotGet t.lb u = some r' ∧ r'.pending = 0 ∧ r'.window = .stopped 0 ∧ r'.last = .timeout ∧
            r'.held = r.held ∧ r'.release = r.release) ∧
        (s.pins.resetAsserted = false →
          t.hasEvent .lane = true ∧ t.lp.laneOutcome = .timeout ∧ t.lp.laneSlot = u)) ∧
    (∀ (src : BitVec 6) (p : List Byte) (e : RosterEntry) (a : Answer) (held : Half) (r : LaneRecord),
      s.hears src = true → slotGet s.ro.entries src.toNat = some e → e.role = .uplink → p.length = 5 →
      targetSlot p = s.ownSlot → readGrant p = some (a, held) → slotGet s.lb src.toNat = some r →
      (((0 < r.pending ∧ (a.outcome = .granted ∨ a.outcome = .denied)) ∨ a.outcome = .revoked) →
        ∃ t, exec (.laneGrantReceived src p) s = .next t ∧
          slotGet t.lb src.toNat =
            (if r.sent = true ∧ r.release = false ∧ held = 0 then none
             else some { r with held := held, pending := 0, window := .stopped 0, last := .answer a }) ∧
          (s.pins.resetAsserted = false →
            t.hasEvent .lane = true ∧ t.lp.laneOutcome = .answer a ∧ t.lp.laneSlot = src.toNat)) ∧
      (r.pending = 0 → a.outcome = .granted →
        ∃ t r', exec (.laneGrantReceived src p) s = .next t ∧ slotGet t.lb src.toNat = some r' ∧ r'.held = 0 ∧
          r'.release = true ∧ r'.last = .late ∧
          (s.pins.resetAsserted = false →
            t.hasEvent .lane = true ∧ t.lp.laneOutcome = .late ∧ t.lp.laneSlot = src.toNat)) ∧
      (r.pending = 0 → a.outcome = .denied →
        ∃ t, exec (.laneGrantReceived src p) s = .next t ∧
          slotGet t.lb src.toNat =
            (if r.sent = true ∧ r.release = false ∧ held = 0 then none else some { r with held := held })) ∧
      (a.outcome = .released →
        ∃ t, exec (.laneGrantReceived src p) s = .next t ∧
          slotGet t.lb src.toNat =
            (if r.sent = true ∧ r.release = false ∧ r.pending = 0 ∧ held = 0 then none
             else some { r with held := held, last := .answer a }))) ∧
    (∀ (src : BitVec 6) (p : List Byte) (e : RosterEntry), s.hears src = true →
      slotGet s.ro.entries src.toNat = some e → p.length = 0 →
      ∃ t, exec (.leaveReceived src p) s = .next t ∧ slotGet t.ro.entries src.toNat = none ∧
        slotGet t.lb src.toNat = none)

/-! ## The local port -/

/-- A transaction of the working port (R182 to R184): chip select opens a packet; a packet taken discards the result and
executes, one refused leaves INVALID, an empty one changes nothing, and SDO is recessive-high through a packet other than
FETCH; FETCH clocks out the result, or NOT_READY while a command executes or the buffer is empty, and zeros beyond its end,
and changes neither; while a command executes no packet is taken. In the wait of a restart whose command a local reset has
met, a packet that passes is not taken, one refused leaves INVALID, and FETCH clocks out NOT_READY (R14, R15). A command that does not come to its block changes nothing;
one that the life state refuses is answered STATE and one that its role refuses ROLE, in that order, with no effect besides
(R183, R185). Rests on the model's choices of log entries 8 (with no life state all but FETCH is refused STATE), 11, 22 (the
order at CONFIGURE), 35 (a packet is judged by the phase at its release, and one whose opening the port did not hear is not
heeded), 58 (POWER_ON in FAN role) and 71 (the wait of a restart after a local reset). -/
def Obligations.PortTransaction : Prop :=
  (∀ s : State, s.pins.standby = true → s.pins.resetAsserted = false →
    (s.lp.phase = .idle →
      exec .chipSelectAsserted s =
        .next { s with
          pins := { s.pins with chipSelect := true, unheard := false }
          lp := { s.lp with phase := .command } }) ∧
    (s.lp.phase ≠ .idle →
      exec .chipSelectAsserted s =
        .next { s with pins := { s.pins with chipSelect := true, unheard := false } }) ∧
    (∀ packet i, decodePacket packet = some i →
      (s.pins.unheard = false → s.lp.phase.isExecuting = false → s.lc.restartWait.isRunning = false →
        exec (.packetTaken packet) s =
          .next { s with
            pins := { s.pins with chipSelect := false, unheard := false }
            lp := { s.lp with
              result := none, phase := .executing packet, sdo := List.replicate packet.length 0xFF#8 } }) ∧
      (s.pins.unheard = false → s.lp.phase.isExecuting = false → s.lc.restartWait.isRunning = true →
        exec (.packetTaken packet) s =
          .next { s with
            pins := { s.pins with chipSelect := false, unheard := false }
            lp := { s.lp with phase := .idle, sdo := List.replicate packet.length 0xFF#8 } }) ∧
      (s.pins.unheard = false → s.lp.phase.isExecuting = true →
        exec (.packetTaken packet) s =
          .next { s with
            pins := { s.pins with chipSelect := false, unheard := false }
            lp := { s.lp with sdo := List.replicate packet.length 0xFF#8 } }) ∧
      (s.pins.unheard = true →
        exec (.packetTaken packet) s =
          .next { s with pins := { s.pins with chipSelect := false, unheard := false } })) ∧
    (∀ packet part, packetRefused packet part = true →
      (s.pins.unheard = false → s.lp.phase.isExecuting = false →
        exec (.commandInvalid packet part) s =
          .next { s with
            pins := { s.pins with chipSelect := false, unheard := false }
            lp := { s.lp with
              result := some [2], phase := .idle, sdo := List.replicate packet.length 0xFF#8 } }) ∧
      (s.pins.unheard = false → s.lp.phase.isExecuting = true →
        exec (.commandInvalid packet part) s =
          .next { s with
            pins := { s.pins with chipSelect := false, unheard := false }
            lp := { s.lp with sdo := List.replicate packet.length 0xFF#8 } })) ∧
    (s.lp.phase.isExecuting = true →
      exec .emptyRelease s = .next { s with pins := { s.pins with chipSelect := false, unheard := false } }) ∧
    (s.pins.unheard = false → s.lp.phase = .command →
      exec .emptyRelease s =
        .next { s with
          pins := { s.pins with chipSelect := false, unheard := false }
          lp := { s.lp with phase := .idle } }) ∧
    (∀ n, s.pins.unheard = false → s.lp.phase.isExecuting = true →
      exec (.fetch n) s =
        .next { s with
          pins := { s.pins with chipSelect := false, unheard := false }
          lp := { s.lp with sdo := ([1#8] ++ List.replicate n 0#8).take n } }) ∧
    (∀ n, s.pins.unheard = false → s.lp.phase.isExecuting = false → s.lc.restartWait.isRunning = true →
      exec (.fetch n) s =
        .next { s with
          pins := { s.pins with chipSelect := false, unheard := false }
          lp := { s.lp with phase := .idle, sdo := ([1#8] ++ List.replicate n 0#8).take n } }) ∧
    (∀ n, s.pins.unheard = false → s.lp.phase.isExecuting = false → s.lc.restartWait.isRunning = false →
      exec (.fetch n) s =
        .next { s with
          pins := { s.pins with chipSelect := false, unheard := false }
          lp := { s.lp with phase := .idle, sdo := (s.lp.result.getD [1#8] ++ List.replicate n 0#8).take n } })) ∧
  ∀ (c : Instr) (k : PortClass) (roles : Role → Bool) (s : State), commandGate c = some (k, roles) →
    (s.portPath c = none → exec c s = .next s) ∧
    (s.reaches c = true → s.removalDue = false →
      (s.gate k = false → ∃ t, exec c s = .next t ∧ t.answered .state [] ∧ s.keptBeside t) ∧
      (s.gate k = true → s.roleIn roles = false →
        ∃ t, exec c s = .next t ∧ t.answered .role [] ∧ s.keptBeside t))

/-- SENSE answers the event word with the cause bytes of the latched events, the redundancy flag and the channel mask,
and clears events, causes and latched statuses, but for ROSTER, MAIL and MAIL_OVERFLOW that still stand (R127, R187,
R196); SET_MASK sets the mask (R188); CONFIGURE in LISTEN and READY sets the one key to a value in its range or answers
RANGE (R10); SET_LIMITS replaces a channel's limits by a consistent set, or answers RANGE (R123). Rests on the model's
choices of log entries 9 (a cleared cause is 0), 14 (the channel mask is shown whether or not SENSOR is latched) and 66 (the
reason byte of TIMEOUT and LATE). -/
def Obligations.SettingsAreTaken : Prop :=
  ∀ s : State, s.removalDue = false →
    (s.accepts .sense = true →
      ∃ t w, exec .sense s = .next t ∧
        t.answered .done (halfBytes s.lp.latched ++
          [if s.hasEvent .power then byte s.lp.powerCause.code else 0,
           if s.hasEvent .shed then s.lp.shedCauses else 0, flag s.bu.stages.lost] ++
          (if s.hasEvent .lane then
            (match s.lp.laneOutcome with
             | .noOutcome => [0, 0]
             | .answer a => [byte a.outcome.code, byte a.reason.code]
             | .timeout => [4, 0]
             | .late => [5, 0]) ++ [byte s.lp.laneSlot]
           else [0, 0, 0]) ++
          [if s.hasEvent .raiseDenied then s.lp.raiseCauses else 0,
           byte (((s.sm.t.list.map (·.latched) ++ s.sm.v.list.map (·.latched)).zipIdx.map
             (fun x => x.1.toNat * 2 ^ x.2)).sum),
           if s.hasEvent .fan then s.lp.fanCauses else 0, if s.hasEvent .bus then s.lp.busCauses else 0,
           if s.hasEvent .eject then s.lp.ejectCauses else 0]) ∧
        (∀ e : Event, w.getLsbD e.bit = true ↔
          s.hasEvent e = true ∧
            ((e = .roster ∧ s.ro.changes ≠ []) ∨
              (e = .mail ∧ s.lc.keys.mailThreshold ≤ s.lp.mailQueue.length) ∨
              (e = .mailOverflow ∧ s.lp.overflow = true))) ∧
        ({ s with
          lp := { s.lp with
            latched := w, powerCause := .request, shedCauses := 0, raiseCauses := 0, fanCauses := 0, busCauses := 0
            ejectCauses := 0, laneOutcome := .noOutcome, laneSlot := 0 }
          sm := { s.sm with
            t := s.sm.t.map (fun x => { x with latched := false })
            v := s.sm.v.map (fun x => { x with latched := false }) } } : State).keptBeside t) ∧
    (∀ w, s.accepts (.setMask w) = true →
      ∃ t, exec (.setMask w) s = .next t ∧ t.answered .done [] ∧
        ({ s with lp := { s.lp with mask := w &&& 0x3FFF#16 } } : State).keptBeside t) ∧
    (∀ key ch v, s.accepts (.configure key ch v) = true →
      ((s.inLife .listen || s.inLife .ready) = false →
        ∃ t, exec (.configure key ch v) s = .next t ∧ t.answered .state [] ∧ s.keptBeside t) ∧
      ((s.inLife .listen || s.inLife .ready) = true →
        (∀ lo hi get, (key, lo, hi, get) ∈ rangedKeys s.lc.keys →
          (lo ≤ v.toNat → v.toNat ≤ hi →
            ∃ t, exec (.configure key ch v) s = .next t ∧ t.answered .done [] ∧
              t.lc = { s.lc with keys := t.lc.keys } ∧ get t.lc.keys = v.toNat ∧
              (∀ x ∈ rangedKeys s.lc.keys, x.1 ≠ key → x.2.2.2 t.lc.keys = x.2.2.2 s.lc.keys) ∧
              t.lc.keys.unranged = s.lc.keys.unranged ∧ t.ro = s.ro ∧ t.sup = s.sup ∧ t.bi.stats = s.bi.stats) ∧
          ((v.toNat < lo ∨ hi < v.toNat) →
            ∃ t, exec (.configure key ch v) s = .next t ∧ t.answered .range [] ∧ s.keptBeside t)) ∧
        (key = .baseAmount →
          (v.toNat + 16 * s.lc.keys.laneCost ≤ 400 →
            ∃ t, exec (.configure key ch v) s = .next t ∧ t.answered .done [] ∧
              t.lc = { s.lc with keys := { s.lc.keys with baseAmount := v.toNat } }) ∧
          (400 < v.toNat + 16 * s.lc.keys.laneCost →
            ∃ t, exec (.configure key ch v) s = .next t ∧ t.answered .range [] ∧ s.keptBeside t)) ∧
        (key = .laneCost →
          (v.toNat ≤ 40 → s.lc.keys.baseAmount + 16 * v.toNat ≤ 400 →
            ∃ t, exec (.configure key ch v) s = .next t ∧ t.answered .done [] ∧
              t.lc = { s.lc with keys := { s.lc.keys with laneCost := v.toNat } }) ∧
          ((40 < v.toNat ∨ 400 < s.lc.keys.baseAmount + 16 * v.toNat) →
            ∃ t, exec (.configure key ch v) s = .next t ∧ t.answered .range [] ∧ s.keptBeside t)) ∧
        (key = .serial →
          ∃ t, exec (.configure key ch v) s = .next t ∧ t.answered .done [] ∧
            t.lc = { s.lc with keys := { s.lc.keys with serial := v } }) ∧
        (key = .redundancy →
          (∀ m, (v, m) ∈ [(0, Redundancy.noRedundancy), (1, .nPlusOne), (2, .halfFeeds)] →
            ∃ t, exec (.configure key ch v) s = .next t ∧ t.answered .done [] ∧
              t.lc = { s.lc with keys := { s.lc.keys with redundancy := m } }) ∧
          (3 ≤ v.toNat → ∃ t, exec (.configure key ch v) s = .next t ∧ t.answered .range [] ∧ s.keptBeside t)) ∧
        (key = .ownDemandCounts ∨ key = .mailBroadcast →
          (v.toNat < 2 →
            ∃ t, exec (.configure key ch v) s = .next t ∧ t.answered .done [] ∧
              t.lc = { s.lc with keys :=
                if key = .mailBroadcast then { s.lc.keys with mailBroadcast := v == 1 }
                else { s.lc.keys with ownDemandCounts := v == 1 } }) ∧
          (2 ≤ v.toNat → ∃ t, exec (.configure key ch v) s = .next t ∧ t.answered .range [] ∧ s.keptBeside t)) ∧
        (key = .demandSpan →
          (ch.toNat < 4 → 1 ≤ v.toNat → v.toNat ≤ 40 →
            ∃ t, exec (.configure key ch v) s = .next t ∧ t.answered .done [] ∧
              t.lc = { s.lc with keys := { s.lc.keys with
                demandSpan := s.lc.keys.demandSpan.put ch.toNat v.toNat } }) ∧
          ((4 ≤ ch.toNat ∨ v = 0 ∨ 40 < v.toNat) →
            ∃ t, exec (.configure key ch v) s = .next t ∧ t.answered .range [] ∧ s.keptBeside t)) ∧
        (key = .demandTarget →
          (∀ target : Option Int, ch.toNat < 4 →
            ((target = none ∧ v = 0x7FFF) ∨
              ∃ d : Int, target = some d ∧ -40 ≤ d ∧ d ≤ 150 ∧ v.toNat = (BitVec.ofInt 16 d).toNat) →
            ∃ t, exec (.configure key ch v) s = .next t ∧ t.answered .done [] ∧
              t.lc = { s.lc with keys := { s.lc.keys with
                demandTarget := s.lc.keys.demandTarget.put ch.toNat target } }) ∧
          ((4 ≤ ch.toNat ∨ (150 < v.toNat ∧ v ≠ 0x7FFF ∧ (v.toNat < 65496 ∨ 65535 < v.toNat))) →
            ∃ t, exec (.configure key ch v) s = .next t ∧ t.answered .range [] ∧ s.keptBeside t)))) ∧
    (∀ (ch : Byte) (o h c d : Half), s.accepts (.setLimits ch o h c d) = true →
      (ch.toNat < 4 → -40 ≤ h.toInt → h.toInt < o.toInt → o.toInt ≤ c.toInt → c.toInt ≤ d.toInt → d.toInt ≤ 150 →
        ∃ t, exec (.setLimits ch o h c d) s = .next t ∧ t.answered .done [] ∧
          ({ s with sm := { s.sm with t := s.sm.t.put ch.toNat { s.sm.t.at ch.toNat with
            overLimit := o.toInt, hysteresis := h.toInt, critLimit := c.toInt
            shutLimit := d.toInt } } } : State).keptBeside t) ∧
      (4 ≤ ch.toNat → ch.toNat < 8 → 0 ≤ h.toInt → h.toInt ≤ o.toInt → o.toInt ≤ 1500 →
        ∃ t, exec (.setLimits ch o h c d) s = .next t ∧ t.answered .done [] ∧
          ({ s with sm := { s.sm with v := s.sm.v.put (ch.toNat - 4) { s.sm.v.at (ch.toNat - 4) with
            high := o.toInt, low := h.toInt } } } : State).keptBeside t) ∧
      (((ch.toNat < 4 ∧
            (h.toInt < -40 ∨ o.toInt ≤ h.toInt ∨ c.toInt < o.toInt ∨ d.toInt < c.toInt ∨ 150 < d.toInt)) ∨
          (4 ≤ ch.toNat ∧ (h.toInt < 0 ∨ o.toInt < h.toInt ∨ 1500 < o.toInt)) ∨ 8 ≤ ch.toNat) →
        ∃ t, exec (.setLimits ch o h c d) s = .next t ∧ t.answered .range [] ∧ s.keptBeside t))

/-- The reads answer their fields and change nothing besides (R10, R59, R77, R78, R106, R119, R134, R148, R170); READ_CHANGES
removes the records it returns (R58); READ_BUS sets the counters to 0 with its clear flag (R39); a slot or channel out of
range is answered RANGE. The principal bytes of each result are those of the state, coded as R198 gives. Rests on the
model's choices of log entries 12, 13, 48, 52, 62, 64, 66 and 67, the codings and orders that R198 leaves open. -/
def Obligations.ReadsAnswerTheirFields : Prop :=
  (∀ s : State, s.removalDue = false →
    (∀ c fields,
      (c, fields) ∈ [(Instr.readConfig, s.configFields), (.readPower, s.powerFields), (.readBudget, s.budgetFields),
        (.readClaims, s.claimsFields), (.readFan, s.fanFields), (.readLanes, s.lanesFields)] →
      s.accepts c = true →
      ∃ t, exec c s = .next t ∧ t.answered .done fields ∧ s.keptBeside t) ∧
    (∀ slot, s.accepts (.readRoster slot) = true →
      ∃ t, exec (.readRoster slot) s = .next t ∧ s.keptBeside t ∧
        (slot.toNat < 48 → t.answered .done (s.rosterFields slot.toNat)) ∧
        (48 ≤ slot.toNat → t.answered .range [])) ∧
    (∀ ch, s.accepts (.readMonitor ch) = true →
      ∃ t, exec (.readMonitor ch) s = .next t ∧ s.keptBeside t ∧
        (ch.toNat < 8 → t.answered .done (s.monitorFields ch.toNat)) ∧ (8 ≤ ch.toNat → t.answered .range [])) ∧
    (s.accepts .readChanges = true →
      ∃ t, exec .readChanges s = .next t ∧ t.answered .done s.changesFields ∧
        ({ s with ro := { s.ro with changes := s.ro.changes.drop 8, lost := 0 } } : State).keptBeside t) ∧
    (∀ flags, s.accepts (.readBus flags) = true →
      ∃ t, exec (.readBus flags) s = .next t ∧ t.answered .done s.busFields ∧
        ({ s with bi := { s.bi with
          stats := if flags.getLsbD 0 then {} else s.bi.stats } } : State).keptBeside t)) ∧
  (∀ s : State,
    (∀ x l, s.lc.straps = some x → s.lc.life = some l →
      ∃ keys,
        s.configFields =
          [byte l.code, byte x.role.code, byte x.slot, byte x.rate.code, flag x.attended, byte (x.capCode.getD 0),
            byte ((x.feed.map Feed.code).getD 0), byte (s.bi.rate.elim 4 Rate.code), flag s.lc.aloneStart,
            byte s.lc.listenCount, byte s.lc.keys.nA, byte s.lc.keys.nB, byte s.lc.keys.retention,
            byte s.lc.keys.identityRepeat] ++
          bytes2 s.lc.keys.typeCode ++ [byte s.lc.keys.revision] ++ natBytes 8 s.lc.keys.serial.toNat ++ keys ++
          [byte s.lc.handle.code, byte s.lc.phase.code] ++ bytes2 (s.msLeft s.lc.grace) ++
          [byte s.lc.leaveOutcome.code]) ∧
    (s.isRole .power = true →
      ∃ timers,
        s.powerFields =
          [byte s.sup.state.code] ++ bytes2 s.sup.reported ++ bytes2 s.lc.keys.rating ++ timers ++
            [byte s.sup.overload] ++ bytes2 s.sup.load ++ [byte (s.roundsLeft s.sup.guard), flag s.ro.selfStale]) ∧
    (s.isRole .blade = true →
      ∃ left,
        s.powerFields =
          [byte s.ps.power.code, byte s.ps.level.code, byte s.ps.desired.code] ++ bytes2 s.ps.working ++
            bytes2 s.lc.keys.floorAmount ++
            (match s.ownClaim with
             | some c => [1] ++ bytes2 c.amount ++ [byte c.level.code, flag c.admitted]
             | none => [0, 0, 0, 0, 0]) ++
            [byte s.ps.reason.code, flag s.ps.pendingOn, byte (s.roundsLeft s.ps.holdOff),
              byte (s.roundsLeft s.ps.shedHold), byte s.ps.shedCause.code, byte s.ps.raise.code] ++ left ++
            [flag s.pwrEn, flag s.throttle, flag s.pins.powerGood, flag s.ro.selfStale, flag s.thermalCritical]) ∧
    (s.isRole .uplink = true →
      ∃ rest,
        s.powerFields =
          [byte s.ps.power.code, byte s.ps.level.code, byte s.ps.desired.code, 0, 0, 0, 0] ++
            bytes2 s.lc.keys.baseAmount ++ [byte (lanesInUse s.lm.lanes)] ++ rest) ∧
    (∃ own,
      s.budgetFields =
        [byte s.lc.keys.redundancy.code, byte s.lc.keys.derateStep, byte s.lc.keys.expectedFans] ++
          bytes2 s.lc.keys.reserve ++ [byte s.bu.stages.n] ++ bytes2 s.bu.stages.sum ++
          bytes2 s.bu.stages.largest ++ bytes2 s.bu.stages.sumA ++ bytes2 s.bu.stages.sumB ++ bytes2 s.bu.stages.s ++
          [flag s.bu.stages.lost, byte s.bu.stages.fans, byte s.bu.stages.f, byte s.bu.stages.h,
            byte s.bu.stages.d] ++
          bytes2 s.bu.stages.cd ++ bytes2 s.bu.stages.cEff ++
          [byte s.bu.claims.length, byte s.bu.stages.prefixLen] ++ bytes2 s.bu.stages.prefixSum ++ own) ∧
    s.claimsFields =
      [byte s.bu.claims.length, byte s.bu.stages.prefixLen] ++
        s.bu.claims.flatMap (fun c =>
          [byte c.slot,
            byte ((if c.cls = .fan then 128 else 0) + (if c.level = .floor then 64 else 0) +
              (if c.admitted then 32 else 0) + c.priority)] ++ bytes2 c.amount ++ bytes2 c.floor) ∧
    (∀ slot e, s.entryOf slot = some e →
      ∃ mid own,
        s.rosterFields slot = [1, byte e.role.code] ++ mid ++ [byte e.silence] ++ own ∧
          (slot = s.ownSlot → own = [1, byte s.ro.selfSilence, flag s.ro.selfStale])) ∧
    (∀ slot, s.entryOf slot = none → ∃ rest, s.rosterFields slot = 0 :: rest) ∧
    (∀ k, k < 4 → ∃ part,
      s.monitorFields k =
        (s.sm.t.at k).reading.bytes ++ signedBytes (s.sm.t.at k).overLimit ++ signedBytes (s.sm.t.at k).hysteresis ++
          signedBytes (s.sm.t.at k).critLimit ++ signedBytes (s.sm.t.at k).shutLimit ++
          [flag (s.sm.t.at k).out, flag (s.sm.t.at k).latched, 1, flag (s.sm.t.at k).critical,
            flag (s.sm.t.at k).shutdown] ++ part ∧ (s.monitorFields k).length = 23) ∧
    (∀ k, k < 4 → ∃ part,
      s.monitorFields (k + 4) =
        bytes2 (s.sm.v.at k).reading ++ signedBytes (s.sm.v.at k).high ++ signedBytes (s.sm.v.at k).low ++
          [0, 0, 0, 0, flag (s.sm.v.at k).out, flag (s.sm.v.at k).latched, 0, 0, 0, 0, 0, 0, 0] ++ part ∧
        (s.monitorFields (k + 4)).length = 23) ∧
    s.changesFields =
      [byte (min 8 s.ro.changes.length), byte (s.ro.changes.length - 8), byte s.ro.lost] ++
        (s.ro.changes.take 8).flatMap (fun c =>
          [byte c.kind.code, byte c.slot, byte (c.role.code + (if c.serial.isSome then 128 else 0))] ++
            bytes2 c.stamp ++ natBytes 8 (c.serial.getD 0).toNat) ∧
    (s.inLife .halted = false → ∃ rest,
      s.fanFields =
        [byte s.fc.applied, s.fc.lastTarget.elim 0xFF byte, s.fc.lastComp.elim 0xFF byte,
          byte s.lc.keys.rotorsFitted, byte (s.fc.rotors.list.filter (·.failed)).length] ++ rest) ∧
    (s.inLife .halted = true → ∃ rest,
      s.fanFields = [100, 0xFF, 0xFF, byte s.lc.keys.rotorsFitted, 0] ++ rest) ∧
    (s.isRole .uplink = true → ∃ rest,
      s.lanesFields =
        (List.range 16).flatMap (fun k =>
          match slotGet s.lm.lanes k with
          | none => [0, 0]
          | some (.reserved n) => [1, byte n]
          | some (.granted n) => [2, byte n]
          | some (.draining n _) => [3, byte n]
          | some .faulted => [4, 0]) ++
          [byte (lanesInUse s.lm.lanes)] ++ rest) ∧
    (s.isRole .blade = true →
      s.lanesFields = byte s.lb.length :: s.lb.flatMap (fun x =>
        [byte x.1] ++ halfBytes x.2.held ++
          [byte x.2.pending, byte (s.roundsLeft x.2.window), flag x.2.release] ++ x.2.last.recordBytes)) ∧
    s.busFields =
      [s.bi.stats.sent, s.bi.stats.good, s.bi.stats.arbitration, s.bi.stats.bitErrors, s.bi.stats.failedSingles,
        s.bi.stats.shedDisturbance, s.bi.stats.checkErrors, s.bi.stats.stuffErrors, s.bi.stats.truncations,
        s.bi.stats.unknownKinds, s.bi.stats.strangers, s.bi.stats.latePeriodics, s.bi.stats.rateOverflows,
        s.bi.stats.rateMismatches, s.bi.stats.shedPulses].flatMap bytes2 ++
      [byte s.bi.txState.code, byte s.bi.failRun, byte (s.roundsLeft s.bi.mute),
        byte (s.bi.rate.elim 4 Rate.code)]) ∧
  [Life.start, .halted, .listen, .ready, .active, .clash, .removable].map Life.code = List.range 7 ∧
  [Role.blade, .fan, .power, .uplink].map Role.code = List.range 4 ∧
  [Rate.k125, .k250, .k500, .k1000].map Rate.code = List.range 4 ∧
  [Level.full, .floor].map Level.code = List.range 2 ∧
  [PowerState.off, .claiming, .enabling, .on, .stopping, .cooldown, .fault].map PowerState.code = List.range 7 ∧
  [SupplyState.offline, .good, .warm, .failed].map SupplyState.code = List.range 4 ∧
  [OffReason.noReason, .request, .shed, .stale, .clash, .pgTimeout, .pgLost, .overtemp, .unseated].map OffReason.code =
    List.range 9 ∧
  [RemovalPhase.noRemoval, .grace, .poweringDown, .removableActive, .removableEarly, .unseated].map
    RemovalPhase.code = List.range 6 ∧
  [LeaveOutcome.noLeave, .pending, .sent, .dropped].map LeaveOutcome.code = List.range 4 ∧
  [ChangeKind.inserted, .identified, .swapped, .removed, .expired].map ChangeKind.code = List.range 5 ∧
  [TxState.enabled, .mute, .off].map TxState.code = List.range 3

/-- Mail: SEND_MAIL posts the entry under the next tag, or answers FULL (R192); ABORT_MAIL takes a PENDING one out, and is
refused for one SENDING or unknown (R193); a MAIL for this station joins the queue, the ninth sets the overflow mark and
none is taken under it (R189, R190); READ_MAIL removes the head (R191); CLEAR_MAIL_OVERFLOW clears mark and event
(R190). Rests on the model's choices of log entries 19 and 65 (the tag shown of an unused record). -/
def Obligations.MailIsSentAndReceived : Prop :=
  ∀ s : State, s.removalDue = false →
    (∀ (dest mode : Byte) (data : List Byte), s.accepts (.sendMail dest mode data) = true →
      s.inLife .active = true → s.mailDest dest.toNat = true → mode.toNat < 2 →
      (s.mailFull = false →
        ∃ t m, exec (.sendMail dest mode data) s = .next t ∧ t.answered .done [BitVec.ofNat 8 s.lp.nextTag] ∧
          t.lp.nextTag = (s.lp.nextTag + 1) % 256 ∧ t.bi.mails.length = s.bi.mails.length + 1 ∧
          m ∈ t.bi.mails ∧ m.dest = dest.toNat ∧ m.data = data.take 11 ∧
          m.mode = (if mode = 0 then .retry else .single) ∧ t.ro = s.ro ∧ t.ps = s.ps ∧ t.bu = s.bu) ∧
      (s.mailFull = true →
        ∃ t, exec (.sendMail dest mode data) s = .next t ∧ t.answered .full [] ∧ s.keptBeside t)) ∧
    (∀ tag : Byte, s.accepts (.abortMail tag) = true →
      (s.lp.boxOf tag.toNat = none →
        ∃ t, exec (.abortMail tag) s = .next t ∧ t.answered .range [] ∧ s.keptBeside t) ∧
      (∀ b, s.lp.boxOf tag.toNat = some b → s.lp.statusOf b = .sending →
        ∃ t, exec (.abortMail tag) s = .next t ∧ t.answered .state [] ∧ s.keptBeside t) ∧
      (∀ b, s.lp.boxOf tag.toNat = some b → s.lp.statusOf b = .pending →
        ∃ t, exec (.abortMail tag) s = .next t ∧ t.answered .done [5] ∧
          ({ s with
            bi := { s.bi with mails := s.bi.mails.filter (fun m => m.box != b) }
            lp := { s.lp with
              box0 := if b = 0 then { s.lp.box0 with status := .aborted } else s.lp.box0
              box1 := if b = 0 then s.lp.box1 else { s.lp.box1 with status := .aborted }
              lastFinal := b } } : State).keptBeside t) ∧
      (∀ b, s.lp.boxOf tag.toNat = some b → (s.lp.statusOf b).final = true →
        ∃ t, exec (.abortMail tag) s = .next t ∧ t.answered .done [byte (s.lp.statusOf b).code] ∧
          s.keptBeside t)) ∧
    (∀ (src : BitVec 6) (p : List Byte), s.hears src = true → 1 ≤ p.length → p.length ≤ 12 →
      s.pins.resetAsserted = false → s.mailForMe (targetSlot p) = true →
      (s.lp.overflow = false → s.lp.mailQueue.length < 8 →
        ∃ t, exec (.mailReceived src p) s = .next t ∧
          t.lp.mailQueue = s.lp.mailQueue ++ [{
            source := src.toNat
            dest := targetSlot p
            stranger := (slotGet s.ro.entries src.toNat).isNone
            data := p.drop 1 }] ∧
          (s.lc.keys.mailThreshold ≤ s.lp.mailQueue.length + 1 → t.hasEvent .mail = true)) ∧
      (s.lp.overflow = false → s.lp.mailQueue.length = 8 →
        ∃ t, exec (.mailReceived src p) s = .next t ∧ t.lp.mailQueue = s.lp.mailQueue ∧ t.lp.overflow = true ∧
          t.hasEvent .mailOverflow = true) ∧
      (s.lp.overflow = true →
        ∃ t, exec (.mailReceived src p) s = .next t ∧ t.lp.mailQueue = s.lp.mailQueue ∧ t.lp.overflow = true)) ∧
    (s.accepts .readMail = true →
      ∃ t, exec .readMail s = .next t ∧
        t.answered .done ((match s.lp.mailQueue with
          | [] => List.replicate 16 0
          | m :: _ => [1, byte m.source, byte m.dest, flag m.stranger, byte m.data.length] ++ m.data ++
              List.replicate (11 - m.data.length) 0) ++
          [byte (s.lp.mailQueue.length - 1), flag s.lp.overflow, byte s.lp.box0.tag, byte s.lp.box0.status.code,
            byte s.lp.box1.tag, byte s.lp.box1.status.code]) ∧
        ({ s with lp := { s.lp with mailQueue := s.lp.mailQueue.drop 1 } } : State).keptBeside t) ∧
    (s.accepts .clearMailOverflow = true →
      ∃ t w, exec .clearMailOverflow s = .next t ∧ t.answered .done [] ∧
        (∀ e : Event, w.getLsbD e.bit = (s.hasEvent e && e != .mailOverflow)) ∧
        ({ s with lp := { s.lp with overflow := false, latched := w } } : State).keptBeside t)
end

