-- ==== Sys2Proof/Laws/State.lean ====
section
/-! SUPPORT. One lemma for each field of each update of State, true by definition, so that no proof unfolds a record update. -/

namespace Sys2Proof.Machine

@[simp] theorem State.withPs_now (s : State) (x : Sequencer) : (s.withPs x).now = s.now := rfl
@[simp] theorem State.withPs_pending (s : State) (x : Sequencer) : (s.withPs x).pending = s.pending := rfl
@[simp] theorem State.withPs_pins (s : State) (x : Sequencer) : (s.withPs x).pins = s.pins := rfl
@[simp] theorem State.withPs_lc (s : State) (x : Sequencer) : (s.withPs x).lc = s.lc := rfl
@[simp] theorem State.withPs_bi (s : State) (x : Sequencer) : (s.withPs x).bi = s.bi := rfl
@[simp] theorem State.withPs_ro (s : State) (x : Sequencer) : (s.withPs x).ro = s.ro := rfl
@[simp] theorem State.withPs_bu (s : State) (x : Sequencer) : (s.withPs x).bu = s.bu := rfl
@[simp] theorem State.withPs_ps (s : State) (x : Sequencer) : (s.withPs x).ps = x := rfl
@[simp] theorem State.withPs_sup (s : State) (x : Sequencer) : (s.withPs x).sup = s.sup := rfl
@[simp] theorem State.withPs_sm (s : State) (x : Sequencer) : (s.withPs x).sm = s.sm := rfl
@[simp] theorem State.withPs_fc (s : State) (x : Sequencer) : (s.withPs x).fc = s.fc := rfl
@[simp] theorem State.withPs_lm (s : State) (x : Sequencer) : (s.withPs x).lm = s.lm := rfl
@[simp] theorem State.withPs_lb (s : State) (x : Sequencer) : (s.withPs x).lb = s.lb := rfl
@[simp] theorem State.withPs_lp (s : State) (x : Sequencer) : (s.withPs x).lp = s.lp := rfl

@[simp] theorem State.withSup_now (s : State) (x : Supply) : (s.withSup x).now = s.now := rfl
@[simp] theorem State.withSup_pending (s : State) (x : Supply) : (s.withSup x).pending = s.pending := rfl
@[simp] theorem State.withSup_pins (s : State) (x : Supply) : (s.withSup x).pins = s.pins := rfl
@[simp] theorem State.withSup_lc (s : State) (x : Supply) : (s.withSup x).lc = s.lc := rfl
@[simp] theorem State.withSup_bi (s : State) (x : Supply) : (s.withSup x).bi = s.bi := rfl
@[simp] theorem State.withSup_ro (s : State) (x : Supply) : (s.withSup x).ro = s.ro := rfl
@[simp] theorem State.withSup_bu (s : State) (x : Supply) : (s.withSup x).bu = s.bu := rfl
@[simp] theorem State.withSup_ps (s : State) (x : Supply) : (s.withSup x).ps = s.ps := rfl
@[simp] theorem State.withSup_sup (s : State) (x : Supply) : (s.withSup x).sup = x := rfl
@[simp] theorem State.withSup_sm (s : State) (x : Supply) : (s.withSup x).sm = s.sm := rfl
@[simp] theorem State.withSup_fc (s : State) (x : Supply) : (s.withSup x).fc = s.fc := rfl
@[simp] theorem State.withSup_lm (s : State) (x : Supply) : (s.withSup x).lm = s.lm := rfl
@[simp] theorem State.withSup_lb (s : State) (x : Supply) : (s.withSup x).lb = s.lb := rfl
@[simp] theorem State.withSup_lp (s : State) (x : Supply) : (s.withSup x).lp = s.lp := rfl

@[simp] theorem State.withFc_now (s : State) (x : FanControl) : (s.withFc x).now = s.now := rfl
@[simp] theorem State.withFc_pending (s : State) (x : FanControl) : (s.withFc x).pending = s.pending := rfl
@[simp] theorem State.withFc_pins (s : State) (x : FanControl) : (s.withFc x).pins = s.pins := rfl
@[simp] theorem State.withFc_lc (s : State) (x : FanControl) : (s.withFc x).lc = s.lc := rfl
@[simp] theorem State.withFc_bi (s : State) (x : FanControl) : (s.withFc x).bi = s.bi := rfl
@[simp] theorem State.withFc_ro (s : State) (x : FanControl) : (s.withFc x).ro = s.ro := rfl
@[simp] theorem State.withFc_bu (s : State) (x : FanControl) : (s.withFc x).bu = s.bu := rfl
@[simp] theorem State.withFc_ps (s : State) (x : FanControl) : (s.withFc x).ps = s.ps := rfl
@[simp] theorem State.withFc_sup (s : State) (x : FanControl) : (s.withFc x).sup = s.sup := rfl
@[simp] theorem State.withFc_sm (s : State) (x : FanControl) : (s.withFc x).sm = s.sm := rfl
@[simp] theorem State.withFc_fc (s : State) (x : FanControl) : (s.withFc x).fc = x := rfl
@[simp] theorem State.withFc_lm (s : State) (x : FanControl) : (s.withFc x).lm = s.lm := rfl
@[simp] theorem State.withFc_lb (s : State) (x : FanControl) : (s.withFc x).lb = s.lb := rfl
@[simp] theorem State.withFc_lp (s : State) (x : FanControl) : (s.withFc x).lp = s.lp := rfl

@[simp] theorem State.withSm_now (s : State) (x : SensorMonitor) : (s.withSm x).now = s.now := rfl
@[simp] theorem State.withSm_pending (s : State) (x : SensorMonitor) : (s.withSm x).pending = s.pending := rfl
@[simp] theorem State.withSm_pins (s : State) (x : SensorMonitor) : (s.withSm x).pins = s.pins := rfl
@[simp] theorem State.withSm_lc (s : State) (x : SensorMonitor) : (s.withSm x).lc = s.lc := rfl
@[simp] theorem State.withSm_bi (s : State) (x : SensorMonitor) : (s.withSm x).bi = s.bi := rfl
@[simp] theorem State.withSm_ro (s : State) (x : SensorMonitor) : (s.withSm x).ro = s.ro := rfl
@[simp] theorem State.withSm_bu (s : State) (x : SensorMonitor) : (s.withSm x).bu = s.bu := rfl
@[simp] theorem State.withSm_ps (s : State) (x : SensorMonitor) : (s.withSm x).ps = s.ps := rfl
@[simp] theorem State.withSm_sup (s : State) (x : SensorMonitor) : (s.withSm x).sup = s.sup := rfl
@[simp] theorem State.withSm_sm (s : State) (x : SensorMonitor) : (s.withSm x).sm = x := rfl
@[simp] theorem State.withSm_fc (s : State) (x : SensorMonitor) : (s.withSm x).fc = s.fc := rfl
@[simp] theorem State.withSm_lm (s : State) (x : SensorMonitor) : (s.withSm x).lm = s.lm := rfl
@[simp] theorem State.withSm_lb (s : State) (x : SensorMonitor) : (s.withSm x).lb = s.lb := rfl
@[simp] theorem State.withSm_lp (s : State) (x : SensorMonitor) : (s.withSm x).lp = s.lp := rfl

@[simp] theorem State.withRo_now (s : State) (x : Roster) : (s.withRo x).now = s.now := rfl
@[simp] theorem State.withRo_pending (s : State) (x : Roster) : (s.withRo x).pending = s.pending := rfl
@[simp] theorem State.withRo_pins (s : State) (x : Roster) : (s.withRo x).pins = s.pins := rfl
@[simp] theorem State.withRo_lc (s : State) (x : Roster) : (s.withRo x).lc = s.lc := rfl
@[simp] theorem State.withRo_bi (s : State) (x : Roster) : (s.withRo x).bi = s.bi := rfl
@[simp] theorem State.withRo_ro (s : State) (x : Roster) : (s.withRo x).ro = x := rfl
@[simp] theorem State.withRo_bu (s : State) (x : Roster) : (s.withRo x).bu = s.bu := rfl
@[simp] theorem State.withRo_ps (s : State) (x : Roster) : (s.withRo x).ps = s.ps := rfl
@[simp] theorem State.withRo_sup (s : State) (x : Roster) : (s.withRo x).sup = s.sup := rfl
@[simp] theorem State.withRo_sm (s : State) (x : Roster) : (s.withRo x).sm = s.sm := rfl
@[simp] theorem State.withRo_fc (s : State) (x : Roster) : (s.withRo x).fc = s.fc := rfl
@[simp] theorem State.withRo_lm (s : State) (x : Roster) : (s.withRo x).lm = s.lm := rfl
@[simp] theorem State.withRo_lb (s : State) (x : Roster) : (s.withRo x).lb = s.lb := rfl
@[simp] theorem State.withRo_lp (s : State) (x : Roster) : (s.withRo x).lp = s.lp := rfl

@[simp] theorem State.withLp_now (s : State) (x : LocalPort) : (s.withLp x).now = s.now := rfl
@[simp] theorem State.withLp_pending (s : State) (x : LocalPort) : (s.withLp x).pending = s.pending := rfl
@[simp] theorem State.withLp_pins (s : State) (x : LocalPort) : (s.withLp x).pins = s.pins := rfl
@[simp] theorem State.withLp_lc (s : State) (x : LocalPort) : (s.withLp x).lc = s.lc := rfl
@[simp] theorem State.withLp_bi (s : State) (x : LocalPort) : (s.withLp x).bi = s.bi := rfl
@[simp] theorem State.withLp_ro (s : State) (x : LocalPort) : (s.withLp x).ro = s.ro := rfl
@[simp] theorem State.withLp_bu (s : State) (x : LocalPort) : (s.withLp x).bu = s.bu := rfl
@[simp] theorem State.withLp_ps (s : State) (x : LocalPort) : (s.withLp x).ps = s.ps := rfl
@[simp] theorem State.withLp_sup (s : State) (x : LocalPort) : (s.withLp x).sup = s.sup := rfl
@[simp] theorem State.withLp_sm (s : State) (x : LocalPort) : (s.withLp x).sm = s.sm := rfl
@[simp] theorem State.withLp_fc (s : State) (x : LocalPort) : (s.withLp x).fc = s.fc := rfl
@[simp] theorem State.withLp_lm (s : State) (x : LocalPort) : (s.withLp x).lm = s.lm := rfl
@[simp] theorem State.withLp_lb (s : State) (x : LocalPort) : (s.withLp x).lb = s.lb := rfl
@[simp] theorem State.withLp_lp (s : State) (x : LocalPort) : (s.withLp x).lp = x := rfl

@[simp] theorem State.withLc_now (s : State) (x : LifeCycle) : (s.withLc x).now = s.now := rfl
@[simp] theorem State.withLc_pending (s : State) (x : LifeCycle) : (s.withLc x).pending = s.pending := rfl
@[simp] theorem State.withLc_pins (s : State) (x : LifeCycle) : (s.withLc x).pins = s.pins := rfl
@[simp] theorem State.withLc_lc (s : State) (x : LifeCycle) : (s.withLc x).lc = x := rfl
@[simp] theorem State.withLc_bi (s : State) (x : LifeCycle) : (s.withLc x).bi = s.bi := rfl
@[simp] theorem State.withLc_ro (s : State) (x : LifeCycle) : (s.withLc x).ro = s.ro := rfl
@[simp] theorem State.withLc_bu (s : State) (x : LifeCycle) : (s.withLc x).bu = s.bu := rfl
@[simp] theorem State.withLc_ps (s : State) (x : LifeCycle) : (s.withLc x).ps = s.ps := rfl
@[simp] theorem State.withLc_sup (s : State) (x : LifeCycle) : (s.withLc x).sup = s.sup := rfl
@[simp] theorem State.withLc_sm (s : State) (x : LifeCycle) : (s.withLc x).sm = s.sm := rfl
@[simp] theorem State.withLc_fc (s : State) (x : LifeCycle) : (s.withLc x).fc = s.fc := rfl
@[simp] theorem State.withLc_lm (s : State) (x : LifeCycle) : (s.withLc x).lm = s.lm := rfl
@[simp] theorem State.withLc_lb (s : State) (x : LifeCycle) : (s.withLc x).lb = s.lb := rfl
@[simp] theorem State.withLc_lp (s : State) (x : LifeCycle) : (s.withLc x).lp = s.lp := rfl

@[simp] theorem State.withLanes_now (s : State) (m : SlotMap LaneUse) : (s.withLanes m).now = s.now := rfl
@[simp] theorem State.withLanes_pending (s : State) (m : SlotMap LaneUse) : (s.withLanes m).pending = s.pending := rfl
@[simp] theorem State.withLanes_pins (s : State) (m : SlotMap LaneUse) : (s.withLanes m).pins = s.pins := rfl
@[simp] theorem State.withLanes_lc (s : State) (m : SlotMap LaneUse) : (s.withLanes m).lc = s.lc := rfl
@[simp] theorem State.withLanes_bi (s : State) (m : SlotMap LaneUse) : (s.withLanes m).bi = s.bi := rfl
@[simp] theorem State.withLanes_ro (s : State) (m : SlotMap LaneUse) : (s.withLanes m).ro = s.ro := rfl
@[simp] theorem State.withLanes_bu (s : State) (m : SlotMap LaneUse) : (s.withLanes m).bu = s.bu := rfl
@[simp] theorem State.withLanes_ps (s : State) (m : SlotMap LaneUse) : (s.withLanes m).ps = s.ps := rfl
@[simp] theorem State.withLanes_sup (s : State) (m : SlotMap LaneUse) : (s.withLanes m).sup = s.sup := rfl
@[simp] theorem State.withLanes_sm (s : State) (m : SlotMap LaneUse) : (s.withLanes m).sm = s.sm := rfl
@[simp] theorem State.withLanes_fc (s : State) (m : SlotMap LaneUse) : (s.withLanes m).fc = s.fc := rfl
@[simp] theorem State.withLanes_lm (s : State) (m : SlotMap LaneUse) :
    (s.withLanes m).lm = { s.lm with lanes := m } := rfl
@[simp] theorem State.withLanes_lb (s : State) (m : SlotMap LaneUse) : (s.withLanes m).lb = s.lb := rfl
@[simp] theorem State.withLanes_lp (s : State) (m : SlotMap LaneUse) : (s.withLanes m).lp = s.lp := rfl

@[simp] theorem State.putKind_now (s : State) (k : OwnKind) (e : Entry) : (s.putKind k e).now = s.now := rfl
@[simp] theorem State.putKind_pending (s : State) (k : OwnKind) (e : Entry) : (s.putKind k e).pending = s.pending := rfl
@[simp] theorem State.putKind_pins (s : State) (k : OwnKind) (e : Entry) : (s.putKind k e).pins = s.pins := rfl
@[simp] theorem State.putKind_lc (s : State) (k : OwnKind) (e : Entry) : (s.putKind k e).lc = s.lc := rfl
@[simp] theorem State.putKind_bi (s : State) (k : OwnKind) (e : Entry) :
    (s.putKind k e).bi = { s.bi with kinds := s.bi.kinds.put k e } := rfl
@[simp] theorem State.putKind_ro (s : State) (k : OwnKind) (e : Entry) : (s.putKind k e).ro = s.ro := rfl
@[simp] theorem State.putKind_bu (s : State) (k : OwnKind) (e : Entry) : (s.putKind k e).bu = s.bu := rfl
@[simp] theorem State.putKind_ps (s : State) (k : OwnKind) (e : Entry) : (s.putKind k e).ps = s.ps := rfl
@[simp] theorem State.putKind_sup (s : State) (k : OwnKind) (e : Entry) : (s.putKind k e).sup = s.sup := rfl
@[simp] theorem State.putKind_sm (s : State) (k : OwnKind) (e : Entry) : (s.putKind k e).sm = s.sm := rfl
@[simp] theorem State.putKind_fc (s : State) (k : OwnKind) (e : Entry) : (s.putKind k e).fc = s.fc := rfl
@[simp] theorem State.putKind_lm (s : State) (k : OwnKind) (e : Entry) : (s.putKind k e).lm = s.lm := rfl
@[simp] theorem State.putKind_lb (s : State) (k : OwnKind) (e : Entry) : (s.putKind k e).lb = s.lb := rfl
@[simp] theorem State.putKind_lp (s : State) (k : OwnKind) (e : Entry) : (s.putKind k e).lp = s.lp := rfl

@[simp] theorem State.pushLane_now (s : State) (k : LaneKind) (n : Nat) : (s.pushLane k n).now = s.now := rfl
@[simp] theorem State.pushLane_pending (s : State) (k : LaneKind) (n : Nat) : (s.pushLane k n).pending = s.pending := rfl
@[simp] theorem State.pushLane_pins (s : State) (k : LaneKind) (n : Nat) : (s.pushLane k n).pins = s.pins := rfl
@[simp] theorem State.pushLane_lc (s : State) (k : LaneKind) (n : Nat) : (s.pushLane k n).lc = s.lc := rfl
@[simp] theorem State.pushLane_bi (s : State) (k : LaneKind) (n : Nat) :
    (s.pushLane k n).bi = { s.bi with lanes := s.bi.lanes ++ [{ kind := k, target := n, sending := false }] } := rfl
@[simp] theorem State.pushLane_ro (s : State) (k : LaneKind) (n : Nat) : (s.pushLane k n).ro = s.ro := rfl
@[simp] theorem State.pushLane_bu (s : State) (k : LaneKind) (n : Nat) : (s.pushLane k n).bu = s.bu := rfl
@[simp] theorem State.pushLane_ps (s : State) (k : LaneKind) (n : Nat) : (s.pushLane k n).ps = s.ps := rfl
@[simp] theorem State.pushLane_sup (s : State) (k : LaneKind) (n : Nat) : (s.pushLane k n).sup = s.sup := rfl
@[simp] theorem State.pushLane_sm (s : State) (k : LaneKind) (n : Nat) : (s.pushLane k n).sm = s.sm := rfl
@[simp] theorem State.pushLane_fc (s : State) (k : LaneKind) (n : Nat) : (s.pushLane k n).fc = s.fc := rfl
@[simp] theorem State.pushLane_lm (s : State) (k : LaneKind) (n : Nat) : (s.pushLane k n).lm = s.lm := rfl
@[simp] theorem State.pushLane_lb (s : State) (k : LaneKind) (n : Nat) : (s.pushLane k n).lb = s.lb := rfl
@[simp] theorem State.pushLane_lp (s : State) (k : LaneKind) (n : Nat) : (s.pushLane k n).lp = s.lp := rfl

@[simp] theorem State.putHolder_now (s : State) (n : Nat) (h : Holder) : (s.putHolder n h).now = s.now := rfl
@[simp] theorem State.putHolder_pending (s : State) (n : Nat) (h : Holder) : (s.putHolder n h).pending = s.pending := rfl
@[simp] theorem State.putHolder_pins (s : State) (n : Nat) (h : Holder) : (s.putHolder n h).pins = s.pins := rfl
@[simp] theorem State.putHolder_lc (s : State) (n : Nat) (h : Holder) : (s.putHolder n h).lc = s.lc := rfl
@[simp] theorem State.putHolder_bi (s : State) (n : Nat) (h : Holder) : (s.putHolder n h).bi = s.bi := rfl
@[simp] theorem State.putHolder_ro (s : State) (n : Nat) (h : Holder) : (s.putHolder n h).ro = s.ro := rfl
@[simp] theorem State.putHolder_bu (s : State) (n : Nat) (h : Holder) : (s.putHolder n h).bu = s.bu := rfl
@[simp] theorem State.putHolder_ps (s : State) (n : Nat) (h : Holder) : (s.putHolder n h).ps = s.ps := rfl
@[simp] theorem State.putHolder_sup (s : State) (n : Nat) (h : Holder) : (s.putHolder n h).sup = s.sup := rfl
@[simp] theorem State.putHolder_sm (s : State) (n : Nat) (h : Holder) : (s.putHolder n h).sm = s.sm := rfl
@[simp] theorem State.putHolder_fc (s : State) (n : Nat) (h : Holder) : (s.putHolder n h).fc = s.fc := rfl
@[simp] theorem State.putHolder_lb (s : State) (n : Nat) (h : Holder) : (s.putHolder n h).lb = s.lb := rfl
@[simp] theorem State.putHolder_lp (s : State) (n : Nat) (h : Holder) : (s.putHolder n h).lp = s.lp := rfl

@[simp] theorem State.putRecord_now (s : State) (n : Nat) (r : LaneRecord) : (s.putRecord n r).now = s.now := rfl
@[simp] theorem State.putRecord_pending (s : State) (n : Nat) (r : LaneRecord) : (s.putRecord n r).pending = s.pending := rfl
@[simp] theorem State.putRecord_pins (s : State) (n : Nat) (r : LaneRecord) : (s.putRecord n r).pins = s.pins := rfl
@[simp] theorem State.putRecord_lc (s : State) (n : Nat) (r : LaneRecord) : (s.putRecord n r).lc = s.lc := rfl
@[simp] theorem State.putRecord_bi (s : State) (n : Nat) (r : LaneRecord) : (s.putRecord n r).bi = s.bi := rfl
@[simp] theorem State.putRecord_ro (s : State) (n : Nat) (r : LaneRecord) : (s.putRecord n r).ro = s.ro := rfl
@[simp] theorem State.putRecord_bu (s : State) (n : Nat) (r : LaneRecord) : (s.putRecord n r).bu = s.bu := rfl
@[simp] theorem State.putRecord_ps (s : State) (n : Nat) (r : LaneRecord) : (s.putRecord n r).ps = s.ps := rfl
@[simp] theorem State.putRecord_sup (s : State) (n : Nat) (r : LaneRecord) : (s.putRecord n r).sup = s.sup := rfl
@[simp] theorem State.putRecord_sm (s : State) (n : Nat) (r : LaneRecord) : (s.putRecord n r).sm = s.sm := rfl
@[simp] theorem State.putRecord_fc (s : State) (n : Nat) (r : LaneRecord) : (s.putRecord n r).fc = s.fc := rfl
@[simp] theorem State.putRecord_lm (s : State) (n : Nat) (r : LaneRecord) : (s.putRecord n r).lm = s.lm := rfl
@[simp] theorem State.putRecord_lb (s : State) (n : Nat) (r : LaneRecord) :
    (s.putRecord n r).lb = slotSet s.lb n r := rfl
@[simp] theorem State.putRecord_lp (s : State) (n : Nat) (r : LaneRecord) : (s.putRecord n r).lp = s.lp := rfl

@[simp] theorem State.keepRecord_now (s : State) (n : Nat) (r : LaneRecord) : (s.keepRecord n r).now = s.now := rfl
@[simp] theorem State.keepRecord_pending (s : State) (n : Nat) (r : LaneRecord) : (s.keepRecord n r).pending = s.pending := rfl
@[simp] theorem State.keepRecord_pins (s : State) (n : Nat) (r : LaneRecord) : (s.keepRecord n r).pins = s.pins := rfl
@[simp] theorem State.keepRecord_lc (s : State) (n : Nat) (r : LaneRecord) : (s.keepRecord n r).lc = s.lc := rfl
@[simp] theorem State.keepRecord_bi (s : State) (n : Nat) (r : LaneRecord) : (s.keepRecord n r).bi = s.bi := rfl
@[simp] theorem State.keepRecord_ro (s : State) (n : Nat) (r : LaneRecord) : (s.keepRecord n r).ro = s.ro := rfl
@[simp] theorem State.keepRecord_bu (s : State) (n : Nat) (r : LaneRecord) : (s.keepRecord n r).bu = s.bu := rfl
@[simp] theorem State.keepRecord_ps (s : State) (n : Nat) (r : LaneRecord) : (s.keepRecord n r).ps = s.ps := rfl
@[simp] theorem State.keepRecord_sup (s : State) (n : Nat) (r : LaneRecord) : (s.keepRecord n r).sup = s.sup := rfl
@[simp] theorem State.keepRecord_sm (s : State) (n : Nat) (r : LaneRecord) : (s.keepRecord n r).sm = s.sm := rfl
@[simp] theorem State.keepRecord_fc (s : State) (n : Nat) (r : LaneRecord) : (s.keepRecord n r).fc = s.fc := rfl
@[simp] theorem State.keepRecord_lm (s : State) (n : Nat) (r : LaneRecord) : (s.keepRecord n r).lm = s.lm := rfl
@[simp] theorem State.keepRecord_lb (s : State) (n : Nat) (r : LaneRecord) :
    (s.keepRecord n r).lb = if r.spent then slotDel s.lb n else slotSet s.lb n r := rfl
@[simp] theorem State.keepRecord_lp (s : State) (n : Nat) (r : LaneRecord) : (s.keepRecord n r).lp = s.lp := rfl

@[simp] theorem State.putEntry_now (s : State) (n : Nat) (e : RosterEntry) : (s.putEntry n e).now = s.now := rfl
@[simp] theorem State.putEntry_pending (s : State) (n : Nat) (e : RosterEntry) : (s.putEntry n e).pending = s.pending := rfl
@[simp] theorem State.putEntry_pins (s : State) (n : Nat) (e : RosterEntry) : (s.putEntry n e).pins = s.pins := rfl
@[simp] theorem State.putEntry_lc (s : State) (n : Nat) (e : RosterEntry) : (s.putEntry n e).lc = s.lc := rfl
@[simp] theorem State.putEntry_bi (s : State) (n : Nat) (e : RosterEntry) : (s.putEntry n e).bi = s.bi := rfl
@[simp] theorem State.putEntry_ro (s : State) (n : Nat) (e : RosterEntry) :
    (s.putEntry n e).ro = { s.ro with entries := slotSet s.ro.entries n e } := rfl
@[simp] theorem State.putEntry_bu (s : State) (n : Nat) (e : RosterEntry) : (s.putEntry n e).bu = s.bu := rfl
@[simp] theorem State.putEntry_ps (s : State) (n : Nat) (e : RosterEntry) : (s.putEntry n e).ps = s.ps := rfl
@[simp] theorem State.putEntry_sup (s : State) (n : Nat) (e : RosterEntry) : (s.putEntry n e).sup = s.sup := rfl
@[simp] theorem State.putEntry_sm (s : State) (n : Nat) (e : RosterEntry) : (s.putEntry n e).sm = s.sm := rfl
@[simp] theorem State.putEntry_fc (s : State) (n : Nat) (e : RosterEntry) : (s.putEntry n e).fc = s.fc := rfl
@[simp] theorem State.putEntry_lm (s : State) (n : Nat) (e : RosterEntry) : (s.putEntry n e).lm = s.lm := rfl
@[simp] theorem State.putEntry_lb (s : State) (n : Nat) (e : RosterEntry) : (s.putEntry n e).lb = s.lb := rfl
@[simp] theorem State.putEntry_lp (s : State) (n : Nat) (e : RosterEntry) : (s.putEntry n e).lp = s.lp := rfl

@[simp] theorem State.count_now (s : State) (f : BusStats → BusStats) : (s.count f).now = s.now := rfl
@[simp] theorem State.count_pending (s : State) (f : BusStats → BusStats) : (s.count f).pending = s.pending := rfl
@[simp] theorem State.count_pins (s : State) (f : BusStats → BusStats) : (s.count f).pins = s.pins := rfl
@[simp] theorem State.count_lc (s : State) (f : BusStats → BusStats) : (s.count f).lc = s.lc := rfl
@[simp] theorem State.count_bi (s : State) (f : BusStats → BusStats) :
    (s.count f).bi = { s.bi with stats := f s.bi.stats } := rfl
@[simp] theorem State.count_ro (s : State) (f : BusStats → BusStats) : (s.count f).ro = s.ro := rfl
@[simp] theorem State.count_bu (s : State) (f : BusStats → BusStats) : (s.count f).bu = s.bu := rfl
@[simp] theorem State.count_ps (s : State) (f : BusStats → BusStats) : (s.count f).ps = s.ps := rfl
@[simp] theorem State.count_sup (s : State) (f : BusStats → BusStats) : (s.count f).sup = s.sup := rfl
@[simp] theorem State.count_sm (s : State) (f : BusStats → BusStats) : (s.count f).sm = s.sm := rfl
@[simp] theorem State.count_fc (s : State) (f : BusStats → BusStats) : (s.count f).fc = s.fc := rfl
@[simp] theorem State.count_lm (s : State) (f : BusStats → BusStats) : (s.count f).lm = s.lm := rfl
@[simp] theorem State.count_lb (s : State) (f : BusStats → BusStats) : (s.count f).lb = s.lb := rfl
@[simp] theorem State.count_lp (s : State) (f : BusStats → BusStats) : (s.count f).lp = s.lp := rfl

@[simp] theorem State.unqueue_now (s : State) (n : Nat) : (s.unqueue n).now = s.now := rfl
@[simp] theorem State.unqueue_pending (s : State) (n : Nat) : (s.unqueue n).pending = s.pending := rfl
@[simp] theorem State.unqueue_pins (s : State) (n : Nat) : (s.unqueue n).pins = s.pins := rfl
@[simp] theorem State.unqueue_lc (s : State) (n : Nat) : (s.unqueue n).lc = s.lc := rfl
@[simp] theorem State.unqueue_bi (s : State) (n : Nat) : (s.unqueue n).bi = s.bi := rfl
@[simp] theorem State.unqueue_ro (s : State) (n : Nat) : (s.unqueue n).ro = s.ro := rfl
@[simp] theorem State.unqueue_bu (s : State) (n : Nat) : (s.unqueue n).bu = s.bu := rfl
@[simp] theorem State.unqueue_ps (s : State) (n : Nat) : (s.unqueue n).ps = s.ps := rfl
@[simp] theorem State.unqueue_sup (s : State) (n : Nat) : (s.unqueue n).sup = s.sup := rfl
@[simp] theorem State.unqueue_sm (s : State) (n : Nat) : (s.unqueue n).sm = s.sm := rfl
@[simp] theorem State.unqueue_fc (s : State) (n : Nat) : (s.unqueue n).fc = s.fc := rfl
@[simp] theorem State.unqueue_lm (s : State) (n : Nat) :
    (s.unqueue n).lm = { s.lm with queue := s.lm.queue.filter (fun r => r.slot != n) } := rfl
@[simp] theorem State.unqueue_lb (s : State) (n : Nat) : (s.unqueue n).lb = s.lb := rfl
@[simp] theorem State.unqueue_lp (s : State) (n : Nat) : (s.unqueue n).lp = s.lp := rfl

@[simp] theorem State.freeWhere_now (s : State) (f : LaneUse → Bool) : (s.freeWhere f).now = s.now := rfl
@[simp] theorem State.freeWhere_pending (s : State) (f : LaneUse → Bool) : (s.freeWhere f).pending = s.pending := rfl
@[simp] theorem State.freeWhere_pins (s : State) (f : LaneUse → Bool) : (s.freeWhere f).pins = s.pins := rfl
@[simp] theorem State.freeWhere_lc (s : State) (f : LaneUse → Bool) : (s.freeWhere f).lc = s.lc := rfl
@[simp] theorem State.freeWhere_bi (s : State) (f : LaneUse → Bool) : (s.freeWhere f).bi = s.bi := rfl
@[simp] theorem State.freeWhere_ro (s : State) (f : LaneUse → Bool) : (s.freeWhere f).ro = s.ro := rfl
@[simp] theorem State.freeWhere_bu (s : State) (f : LaneUse → Bool) : (s.freeWhere f).bu = s.bu := rfl
@[simp] theorem State.freeWhere_ps (s : State) (f : LaneUse → Bool) : (s.freeWhere f).ps = s.ps := rfl
@[simp] theorem State.freeWhere_sup (s : State) (f : LaneUse → Bool) : (s.freeWhere f).sup = s.sup := rfl
@[simp] theorem State.freeWhere_sm (s : State) (f : LaneUse → Bool) : (s.freeWhere f).sm = s.sm := rfl
@[simp] theorem State.freeWhere_fc (s : State) (f : LaneUse → Bool) : (s.freeWhere f).fc = s.fc := rfl
@[simp] theorem State.freeWhere_lm (s : State) (f : LaneUse → Bool) :
    (s.freeWhere f).lm = { s.lm with lanes := s.lm.lanes.filter (fun p => !f p.2) } := rfl
@[simp] theorem State.freeWhere_lb (s : State) (f : LaneUse → Bool) : (s.freeWhere f).lb = s.lb := rfl
@[simp] theorem State.freeWhere_lp (s : State) (f : LaneUse → Bool) : (s.freeWhere f).lp = s.lp := rfl

@[simp] theorem State.putHolder_queue (s : State) (n : Nat) (h : Holder) :
    (s.putHolder n h).lm.queue = s.lm.queue := rfl
@[simp] theorem State.putHolder_lanes (s : State) (n : Nat) (h : Holder) :
    (s.putHolder n h).lm.lanes = s.lm.lanes := rfl
@[simp] theorem State.putHolder_reservation (s : State) (n : Nat) (h : Holder) :
    (s.putHolder n h).lm.reservation = s.lm.reservation := rfl

/-! ## Carrying the clock, the own entry table, who the station is -/

@[simp] theorem State.reach_pending (s : State) (t : Timer) : (s.reach t).pending = s.pending := by cases t <;> rfl
@[simp] theorem State.reach_pins (s : State) (t : Timer) : (s.reach t).pins = s.pins := by cases t <;> rfl
@[simp] theorem State.reach_lc (s : State) (t : Timer) : (s.reach t).lc = s.lc := by cases t <;> rfl
@[simp] theorem State.reach_bi (s : State) (t : Timer) : (s.reach t).bi = s.bi := by cases t <;> rfl
@[simp] theorem State.reach_ro (s : State) (t : Timer) : (s.reach t).ro = s.ro := by cases t <;> rfl
@[simp] theorem State.reach_bu (s : State) (t : Timer) : (s.reach t).bu = s.bu := by cases t <;> rfl
@[simp] theorem State.reach_ps (s : State) (t : Timer) : (s.reach t).ps = s.ps := by cases t <;> rfl
@[simp] theorem State.reach_sup (s : State) (t : Timer) : (s.reach t).sup = s.sup := by cases t <;> rfl
@[simp] theorem State.reach_sm (s : State) (t : Timer) : (s.reach t).sm = s.sm := by cases t <;> rfl
@[simp] theorem State.reach_fc (s : State) (t : Timer) : (s.reach t).fc = s.fc := by cases t <;> rfl
@[simp] theorem State.reach_lm (s : State) (t : Timer) : (s.reach t).lm = s.lm := by cases t <;> rfl
@[simp] theorem State.reach_lb (s : State) (t : Timer) : (s.reach t).lb = s.lb := by cases t <;> rfl
@[simp] theorem State.reach_lp (s : State) (t : Timer) : (s.reach t).lp = s.lp := by cases t <;> rfl

@[simp] theorem KindEntries.put_at (e : KindEntries) (k : OwnKind) (x : Entry) : (e.put k x).at k = x := by
  cases k <;> rfl

theorem KindEntries.put_at_ne (e : KindEntries) (k j : OwnKind) (x : Entry) (h : j ≠ k) :
    (e.put k x).at j = e.at j := by
  cases k <;> cases j <;> simp_all [KindEntries.put, KindEntries.at]

@[simp] theorem KindEntries.put_leave (e : KindEntries) (k : OwnKind) (x : Entry) (h : k ≠ .leave) :
    (e.put k x).leave = e.leave := by
  cases k <;> simp_all [KindEntries.put]

/-- A role is asked of a state through its life-cycle controller alone. -/
theorem State.isRole_congr {s t : State} (h : s.lc = t.lc) (r : Role) : s.isRole r = t.isRole r := by
  simp [State.isRole, State.role, h]

theorem State.consumer_congr {s t : State} (h : s.lc = t.lc) : s.consumer = t.consumer := by
  simp [State.consumer, State.isRole, State.role, h]

theorem State.inLife_congr {s t : State} (h : s.lc = t.lc) (l : Life) : s.inLife l = t.inLife l := by
  simp [State.inLife, h]

theorem State.ownSlot_congr {s t : State} (h : s.lc = t.lc) : s.ownSlot = t.ownSlot := by
  simp [State.ownSlot, h]

theorem State.waiting_congr {s t : State} (h : s.lc = t.lc) : s.waiting = t.waiting := by
  simp [State.waiting, h]

end Sys2Proof.Machine
end

