-- ==== Sys2Proof/Laws/Events.lean ====
section
/-! SUPPORT. What latching an event and recomputing the budget leave unchanged. -/

namespace Sys2Proof.Machine

@[simp] theorem State.latchWith_frame (s : State) (e : Event) (f : LocalPort → LocalPort) :
    (s.latchWith e f).now = s.now ∧ (s.latchWith e f).pending = s.pending ∧ (s.latchWith e f).pins = s.pins ∧
    (s.latchWith e f).lc = s.lc ∧ (s.latchWith e f).bi = s.bi ∧ (s.latchWith e f).ro = s.ro ∧
    (s.latchWith e f).bu = s.bu ∧ (s.latchWith e f).ps = s.ps ∧ (s.latchWith e f).sup = s.sup ∧
    (s.latchWith e f).sm = s.sm ∧ (s.latchWith e f).fc = s.fc ∧ (s.latchWith e f).lm = s.lm ∧
    (s.latchWith e f).lb = s.lb := by
  generalize h : s.latchWith e f = t
  unfold State.latchWith at h
  try dsimp only at h
  (repeat' split at h) <;> subst h <;> simp

/-- An event stands in one of the used bits of the event word. -/
theorem Event.word_used (e : Event) : e.word &&& allEvents = e.word := by cases e <;> decide

/-- Latching keeps the event word within its used bits. -/
theorem State.latchWith_used (s : State) (e : Event) (f : LocalPort → LocalPort)
    (h : s.lp.latched &&& allEvents = s.lp.latched) :
    (s.latchWith e f).lp.latched &&& allEvents = (s.latchWith e f).lp.latched := by
  unfold State.latchWith
  split
  · exact h
  · simp only [BitVec.and_comm _ allEvents, BitVec.and_or_distrib_left]
    rw [BitVec.and_comm allEvents, BitVec.and_comm allEvents, h, e.word_used]

@[simp] theorem State.latch_frame (s : State) (e : Event) :
    (s.latch e).now = s.now ∧ (s.latch e).pending = s.pending ∧ (s.latch e).pins = s.pins ∧ (s.latch e).lc = s.lc ∧
    (s.latch e).bi = s.bi ∧ (s.latch e).ro = s.ro ∧ (s.latch e).bu = s.bu ∧ (s.latch e).ps = s.ps ∧
    (s.latch e).sup = s.sup ∧ (s.latch e).sm = s.sm ∧ (s.latch e).fc = s.fc ∧ (s.latch e).lm = s.lm ∧
    (s.latch e).lb = s.lb ∧ (s.latch e).lp.phase = s.lp.phase ∧ (s.latch e).lp.result = s.lp.result ∧
    (s.latch e).lp.sdo = s.lp.sdo ∧ (s.latch e).lp.lostCommands = s.lp.lostCommands ∧ (s.latch e).lp.mask = s.lp.mask ∧
    (s.latch e).lp.powerCause = s.lp.powerCause ∧ (s.latch e).lp.shedCauses = s.lp.shedCauses ∧
    (s.latch e).lp.raiseCauses = s.lp.raiseCauses ∧ (s.latch e).lp.fanCauses = s.lp.fanCauses ∧
    (s.latch e).lp.busCauses = s.lp.busCauses ∧ (s.latch e).lp.ejectCauses = s.lp.ejectCauses ∧
    (s.latch e).lp.laneOutcome = s.lp.laneOutcome ∧ (s.latch e).lp.laneSlot = s.lp.laneSlot ∧
    (s.latch e).lp.mailQueue = s.lp.mailQueue ∧ (s.latch e).lp.overflow = s.lp.overflow ∧
    (s.latch e).lp.box0 = s.lp.box0 ∧ (s.latch e).lp.box1 = s.lp.box1 ∧ (s.latch e).lp.nextTag = s.lp.nextTag ∧
    (s.latch e).lp.lastFinal = s.lp.lastFinal := by
  unfold State.latch State.latchWith; split <;> simp

@[simp] theorem State.latchPower_frame (s : State) (c : PowerCause) :
    (s.latchPower c).now = s.now ∧ (s.latchPower c).pending = s.pending ∧ (s.latchPower c).pins = s.pins ∧
    (s.latchPower c).lc = s.lc ∧ (s.latchPower c).bi = s.bi ∧ (s.latchPower c).ro = s.ro ∧
    (s.latchPower c).bu = s.bu ∧ (s.latchPower c).ps = s.ps ∧ (s.latchPower c).sup = s.sup ∧
    (s.latchPower c).sm = s.sm ∧ (s.latchPower c).fc = s.fc ∧ (s.latchPower c).lm = s.lm ∧
    (s.latchPower c).lb = s.lb ∧ (s.latchPower c).lp.phase = s.lp.phase ∧ (s.latchPower c).lp.result = s.lp.result ∧
    (s.latchPower c).lp.sdo = s.lp.sdo ∧ (s.latchPower c).lp.lostCommands = s.lp.lostCommands ∧
    (s.latchPower c).lp.mask = s.lp.mask ∧ (s.latchPower c).lp.shedCauses = s.lp.shedCauses ∧
    (s.latchPower c).lp.raiseCauses = s.lp.raiseCauses ∧ (s.latchPower c).lp.fanCauses = s.lp.fanCauses ∧
    (s.latchPower c).lp.busCauses = s.lp.busCauses ∧ (s.latchPower c).lp.ejectCauses = s.lp.ejectCauses ∧
    (s.latchPower c).lp.laneOutcome = s.lp.laneOutcome ∧ (s.latchPower c).lp.laneSlot = s.lp.laneSlot ∧
    (s.latchPower c).lp.mailQueue = s.lp.mailQueue ∧ (s.latchPower c).lp.overflow = s.lp.overflow ∧
    (s.latchPower c).lp.box0 = s.lp.box0 ∧ (s.latchPower c).lp.box1 = s.lp.box1 ∧
    (s.latchPower c).lp.nextTag = s.lp.nextTag ∧ (s.latchPower c).lp.lastFinal = s.lp.lastFinal := by
  unfold State.latchPower State.latchWith; split <;> simp

@[simp] theorem State.latchShed_frame (s : State) (c : ShedCause) :
    (s.latchShed c).now = s.now ∧ (s.latchShed c).pending = s.pending ∧ (s.latchShed c).pins = s.pins ∧
    (s.latchShed c).lc = s.lc ∧ (s.latchShed c).bi = s.bi ∧ (s.latchShed c).ro = s.ro ∧ (s.latchShed c).bu = s.bu ∧
    (s.latchShed c).ps = s.ps ∧ (s.latchShed c).sup = s.sup ∧ (s.latchShed c).sm = s.sm ∧ (s.latchShed c).fc = s.fc ∧
    (s.latchShed c).lm = s.lm ∧ (s.latchShed c).lb = s.lb ∧ (s.latchShed c).lp.phase = s.lp.phase ∧
    (s.latchShed c).lp.result = s.lp.result ∧ (s.latchShed c).lp.sdo = s.lp.sdo ∧
    (s.latchShed c).lp.lostCommands = s.lp.lostCommands ∧ (s.latchShed c).lp.mask = s.lp.mask ∧
    (s.latchShed c).lp.powerCause = s.lp.powerCause ∧ (s.latchShed c).lp.raiseCauses = s.lp.raiseCauses ∧
    (s.latchShed c).lp.fanCauses = s.lp.fanCauses ∧ (s.latchShed c).lp.busCauses = s.lp.busCauses ∧
    (s.latchShed c).lp.ejectCauses = s.lp.ejectCauses ∧ (s.latchShed c).lp.laneOutcome = s.lp.laneOutcome ∧
    (s.latchShed c).lp.laneSlot = s.lp.laneSlot ∧ (s.latchShed c).lp.mailQueue = s.lp.mailQueue ∧
    (s.latchShed c).lp.overflow = s.lp.overflow ∧ (s.latchShed c).lp.box0 = s.lp.box0 ∧
    (s.latchShed c).lp.box1 = s.lp.box1 ∧ (s.latchShed c).lp.nextTag = s.lp.nextTag ∧
    (s.latchShed c).lp.lastFinal = s.lp.lastFinal := by
  unfold State.latchShed State.latchWith; split <;> simp

@[simp] theorem State.latchRaiseDenied_frame (s : State) (b : Bool) :
    (s.latchRaiseDenied b).now = s.now ∧ (s.latchRaiseDenied b).pending = s.pending ∧
    (s.latchRaiseDenied b).pins = s.pins ∧ (s.latchRaiseDenied b).lc = s.lc ∧ (s.latchRaiseDenied b).bi = s.bi ∧
    (s.latchRaiseDenied b).ro = s.ro ∧ (s.latchRaiseDenied b).bu = s.bu ∧ (s.latchRaiseDenied b).ps = s.ps ∧
    (s.latchRaiseDenied b).sup = s.sup ∧ (s.latchRaiseDenied b).sm = s.sm ∧ (s.latchRaiseDenied b).fc = s.fc ∧
    (s.latchRaiseDenied b).lm = s.lm ∧ (s.latchRaiseDenied b).lb = s.lb ∧
    (s.latchRaiseDenied b).lp.phase = s.lp.phase ∧ (s.latchRaiseDenied b).lp.result = s.lp.result ∧
    (s.latchRaiseDenied b).lp.sdo = s.lp.sdo ∧ (s.latchRaiseDenied b).lp.lostCommands = s.lp.lostCommands ∧
    (s.latchRaiseDenied b).lp.mask = s.lp.mask ∧ (s.latchRaiseDenied b).lp.powerCause = s.lp.powerCause ∧
    (s.latchRaiseDenied b).lp.shedCauses = s.lp.shedCauses ∧ (s.latchRaiseDenied b).lp.fanCauses = s.lp.fanCauses ∧
    (s.latchRaiseDenied b).lp.busCauses = s.lp.busCauses ∧ (s.latchRaiseDenied b).lp.ejectCauses = s.lp.ejectCauses ∧
    (s.latchRaiseDenied b).lp.laneOutcome = s.lp.laneOutcome ∧ (s.latchRaiseDenied b).lp.laneSlot = s.lp.laneSlot ∧
    (s.latchRaiseDenied b).lp.mailQueue = s.lp.mailQueue ∧ (s.latchRaiseDenied b).lp.overflow = s.lp.overflow ∧
    (s.latchRaiseDenied b).lp.box0 = s.lp.box0 ∧ (s.latchRaiseDenied b).lp.box1 = s.lp.box1 ∧
    (s.latchRaiseDenied b).lp.nextTag = s.lp.nextTag ∧ (s.latchRaiseDenied b).lp.lastFinal = s.lp.lastFinal := by
  unfold State.latchRaiseDenied State.latchWith; split <;> simp

@[simp] theorem State.latchFan_frame (s : State) (b : Bool) :
    (s.latchFan b).now = s.now ∧ (s.latchFan b).pending = s.pending ∧ (s.latchFan b).pins = s.pins ∧
    (s.latchFan b).lc = s.lc ∧ (s.latchFan b).bi = s.bi ∧ (s.latchFan b).ro = s.ro ∧ (s.latchFan b).bu = s.bu ∧
    (s.latchFan b).ps = s.ps ∧ (s.latchFan b).sup = s.sup ∧ (s.latchFan b).sm = s.sm ∧ (s.latchFan b).fc = s.fc ∧
    (s.latchFan b).lm = s.lm ∧ (s.latchFan b).lb = s.lb ∧ (s.latchFan b).lp.phase = s.lp.phase ∧
    (s.latchFan b).lp.result = s.lp.result ∧ (s.latchFan b).lp.sdo = s.lp.sdo ∧
    (s.latchFan b).lp.lostCommands = s.lp.lostCommands ∧ (s.latchFan b).lp.mask = s.lp.mask ∧
    (s.latchFan b).lp.powerCause = s.lp.powerCause ∧ (s.latchFan b).lp.shedCauses = s.lp.shedCauses ∧
    (s.latchFan b).lp.raiseCauses = s.lp.raiseCauses ∧ (s.latchFan b).lp.busCauses = s.lp.busCauses ∧
    (s.latchFan b).lp.ejectCauses = s.lp.ejectCauses ∧ (s.latchFan b).lp.laneOutcome = s.lp.laneOutcome ∧
    (s.latchFan b).lp.laneSlot = s.lp.laneSlot ∧ (s.latchFan b).lp.mailQueue = s.lp.mailQueue ∧
    (s.latchFan b).lp.overflow = s.lp.overflow ∧ (s.latchFan b).lp.box0 = s.lp.box0 ∧
    (s.latchFan b).lp.box1 = s.lp.box1 ∧ (s.latchFan b).lp.nextTag = s.lp.nextTag ∧
    (s.latchFan b).lp.lastFinal = s.lp.lastFinal := by
  unfold State.latchFan State.latchWith; split <;> simp

@[simp] theorem State.latchBus_frame (s : State) (c : BusCause) :
    (s.latchBus c).now = s.now ∧ (s.latchBus c).pending = s.pending ∧ (s.latchBus c).pins = s.pins ∧
    (s.latchBus c).lc = s.lc ∧ (s.latchBus c).bi = s.bi ∧ (s.latchBus c).ro = s.ro ∧ (s.latchBus c).bu = s.bu ∧
    (s.latchBus c).ps = s.ps ∧ (s.latchBus c).sup = s.sup ∧ (s.latchBus c).sm = s.sm ∧ (s.latchBus c).fc = s.fc ∧
    (s.latchBus c).lm = s.lm ∧ (s.latchBus c).lb = s.lb ∧ (s.latchBus c).lp.phase = s.lp.phase ∧
    (s.latchBus c).lp.result = s.lp.result ∧ (s.latchBus c).lp.sdo = s.lp.sdo ∧
    (s.latchBus c).lp.lostCommands = s.lp.lostCommands ∧ (s.latchBus c).lp.mask = s.lp.mask ∧
    (s.latchBus c).lp.powerCause = s.lp.powerCause ∧ (s.latchBus c).lp.shedCauses = s.lp.shedCauses ∧
    (s.latchBus c).lp.raiseCauses = s.lp.raiseCauses ∧ (s.latchBus c).lp.fanCauses = s.lp.fanCauses ∧
    (s.latchBus c).lp.ejectCauses = s.lp.ejectCauses ∧ (s.latchBus c).lp.laneOutcome = s.lp.laneOutcome ∧
    (s.latchBus c).lp.laneSlot = s.lp.laneSlot ∧ (s.latchBus c).lp.mailQueue = s.lp.mailQueue ∧
    (s.latchBus c).lp.overflow = s.lp.overflow ∧ (s.latchBus c).lp.box0 = s.lp.box0 ∧
    (s.latchBus c).lp.box1 = s.lp.box1 ∧ (s.latchBus c).lp.nextTag = s.lp.nextTag ∧
    (s.latchBus c).lp.lastFinal = s.lp.lastFinal := by
  unfold State.latchBus State.latchWith; split <;> simp

@[simp] theorem State.latchEject_frame (s : State) (h : Handle) :
    (s.latchEject h).now = s.now ∧ (s.latchEject h).pending = s.pending ∧ (s.latchEject h).pins = s.pins ∧
    (s.latchEject h).lc = s.lc ∧ (s.latchEject h).bi = s.bi ∧ (s.latchEject h).ro = s.ro ∧
    (s.latchEject h).bu = s.bu ∧ (s.latchEject h).ps = s.ps ∧ (s.latchEject h).sup = s.sup ∧
    (s.latchEject h).sm = s.sm ∧ (s.latchEject h).fc = s.fc ∧ (s.latchEject h).lm = s.lm ∧
    (s.latchEject h).lb = s.lb ∧ (s.latchEject h).lp.phase = s.lp.phase ∧ (s.latchEject h).lp.result = s.lp.result ∧
    (s.latchEject h).lp.sdo = s.lp.sdo ∧ (s.latchEject h).lp.lostCommands = s.lp.lostCommands ∧
    (s.latchEject h).lp.mask = s.lp.mask ∧ (s.latchEject h).lp.powerCause = s.lp.powerCause ∧
    (s.latchEject h).lp.shedCauses = s.lp.shedCauses ∧ (s.latchEject h).lp.raiseCauses = s.lp.raiseCauses ∧
    (s.latchEject h).lp.fanCauses = s.lp.fanCauses ∧ (s.latchEject h).lp.busCauses = s.lp.busCauses ∧
    (s.latchEject h).lp.laneOutcome = s.lp.laneOutcome ∧ (s.latchEject h).lp.laneSlot = s.lp.laneSlot ∧
    (s.latchEject h).lp.mailQueue = s.lp.mailQueue ∧ (s.latchEject h).lp.overflow = s.lp.overflow ∧
    (s.latchEject h).lp.box0 = s.lp.box0 ∧ (s.latchEject h).lp.box1 = s.lp.box1 ∧
    (s.latchEject h).lp.nextTag = s.lp.nextTag ∧ (s.latchEject h).lp.lastFinal = s.lp.lastFinal := by
  unfold State.latchEject State.latchWith; split <;> simp

@[simp] theorem State.latchLane_frame (s : State) (o : LastOutcome) (n : Nat) :
    (s.latchLane o n).now = s.now ∧ (s.latchLane o n).pending = s.pending ∧ (s.latchLane o n).pins = s.pins ∧
    (s.latchLane o n).lc = s.lc ∧ (s.latchLane o n).bi = s.bi ∧ (s.latchLane o n).ro = s.ro ∧
    (s.latchLane o n).bu = s.bu ∧ (s.latchLane o n).ps = s.ps ∧ (s.latchLane o n).sup = s.sup ∧
    (s.latchLane o n).sm = s.sm ∧ (s.latchLane o n).fc = s.fc ∧ (s.latchLane o n).lm = s.lm ∧
    (s.latchLane o n).lb = s.lb ∧ (s.latchLane o n).lp.phase = s.lp.phase ∧
    (s.latchLane o n).lp.result = s.lp.result ∧ (s.latchLane o n).lp.sdo = s.lp.sdo ∧
    (s.latchLane o n).lp.lostCommands = s.lp.lostCommands ∧ (s.latchLane o n).lp.mask = s.lp.mask ∧
    (s.latchLane o n).lp.powerCause = s.lp.powerCause ∧ (s.latchLane o n).lp.shedCauses = s.lp.shedCauses ∧
    (s.latchLane o n).lp.raiseCauses = s.lp.raiseCauses ∧ (s.latchLane o n).lp.fanCauses = s.lp.fanCauses ∧
    (s.latchLane o n).lp.busCauses = s.lp.busCauses ∧ (s.latchLane o n).lp.ejectCauses = s.lp.ejectCauses ∧
    (s.latchLane o n).lp.mailQueue = s.lp.mailQueue ∧ (s.latchLane o n).lp.overflow = s.lp.overflow ∧
    (s.latchLane o n).lp.box0 = s.lp.box0 ∧ (s.latchLane o n).lp.box1 = s.lp.box1 ∧
    (s.latchLane o n).lp.nextTag = s.lp.nextTag ∧ (s.latchLane o n).lp.lastFinal = s.lp.lastFinal := by
  unfold State.latchLane State.latchWith; split <;> simp

@[simp] theorem recompute_frame (s : State) :
    (recompute s).now = s.now ∧ (recompute s).pending = s.pending ∧ (recompute s).pins = s.pins ∧
    (recompute s).lc = s.lc ∧ (recompute s).bi = s.bi ∧ (recompute s).ro = s.ro ∧ (recompute s).ps = s.ps ∧
    (recompute s).sup = s.sup ∧ (recompute s).sm = s.sm ∧ (recompute s).fc = s.fc ∧ (recompute s).lm = s.lm ∧
    (recompute s).lb = s.lb ∧ (recompute s).lp.phase = s.lp.phase ∧ (recompute s).lp.result = s.lp.result ∧
    (recompute s).lp.sdo = s.lp.sdo ∧ (recompute s).lp.lostCommands = s.lp.lostCommands ∧
    (recompute s).lp.mask = s.lp.mask ∧ (recompute s).lp.powerCause = s.lp.powerCause ∧
    (recompute s).lp.shedCauses = s.lp.shedCauses ∧ (recompute s).lp.raiseCauses = s.lp.raiseCauses ∧
    (recompute s).lp.fanCauses = s.lp.fanCauses ∧ (recompute s).lp.busCauses = s.lp.busCauses ∧
    (recompute s).lp.ejectCauses = s.lp.ejectCauses ∧ (recompute s).lp.laneOutcome = s.lp.laneOutcome ∧
    (recompute s).lp.laneSlot = s.lp.laneSlot ∧ (recompute s).lp.mailQueue = s.lp.mailQueue ∧
    (recompute s).lp.overflow = s.lp.overflow ∧ (recompute s).lp.box0 = s.lp.box0 ∧
    (recompute s).lp.box1 = s.lp.box1 ∧ (recompute s).lp.nextTag = s.lp.nextTag ∧
    (recompute s).lp.lastFinal = s.lp.lastFinal := by
  generalize h : recompute s = t
  unfold recompute at h
  try dsimp only at h
  (repeat' split at h) <;> subst h <;> simp

@[simp] theorem setClaim_frame (c : Claim) (s : State) :
    (setClaim c s).now = s.now ∧ (setClaim c s).pending = s.pending ∧ (setClaim c s).pins = s.pins ∧
    (setClaim c s).lc = s.lc ∧ (setClaim c s).bi = s.bi ∧ (setClaim c s).ro = s.ro ∧ (setClaim c s).ps = s.ps ∧
    (setClaim c s).sup = s.sup ∧ (setClaim c s).sm = s.sm ∧ (setClaim c s).fc = s.fc ∧ (setClaim c s).lm = s.lm ∧
    (setClaim c s).lb = s.lb ∧ (setClaim c s).lp.phase = s.lp.phase ∧ (setClaim c s).lp.result = s.lp.result ∧
    (setClaim c s).lp.sdo = s.lp.sdo ∧ (setClaim c s).lp.lostCommands = s.lp.lostCommands ∧
    (setClaim c s).lp.mask = s.lp.mask ∧ (setClaim c s).lp.powerCause = s.lp.powerCause ∧
    (setClaim c s).lp.shedCauses = s.lp.shedCauses ∧ (setClaim c s).lp.raiseCauses = s.lp.raiseCauses ∧
    (setClaim c s).lp.fanCauses = s.lp.fanCauses ∧ (setClaim c s).lp.busCauses = s.lp.busCauses ∧
    (setClaim c s).lp.ejectCauses = s.lp.ejectCauses ∧ (setClaim c s).lp.laneOutcome = s.lp.laneOutcome ∧
    (setClaim c s).lp.laneSlot = s.lp.laneSlot ∧ (setClaim c s).lp.mailQueue = s.lp.mailQueue ∧
    (setClaim c s).lp.overflow = s.lp.overflow ∧ (setClaim c s).lp.box0 = s.lp.box0 ∧
    (setClaim c s).lp.box1 = s.lp.box1 ∧ (setClaim c s).lp.nextTag = s.lp.nextTag ∧
    (setClaim c s).lp.lastFinal = s.lp.lastFinal := by
  generalize h : setClaim c s = t
  unfold setClaim at h
  try dsimp only at h
  (repeat' split at h) <;> subst h <;> simp

@[simp] theorem delClaim_frame (n : Nat) (s : State) :
    (delClaim n s).now = s.now ∧ (delClaim n s).pending = s.pending ∧ (delClaim n s).pins = s.pins ∧
    (delClaim n s).lc = s.lc ∧ (delClaim n s).bi = s.bi ∧ (delClaim n s).ro = s.ro ∧ (delClaim n s).ps = s.ps ∧
    (delClaim n s).sup = s.sup ∧ (delClaim n s).sm = s.sm ∧ (delClaim n s).fc = s.fc ∧ (delClaim n s).lm = s.lm ∧
    (delClaim n s).lb = s.lb ∧ (delClaim n s).lp.phase = s.lp.phase ∧ (delClaim n s).lp.result = s.lp.result ∧
    (delClaim n s).lp.sdo = s.lp.sdo ∧ (delClaim n s).lp.lostCommands = s.lp.lostCommands ∧
    (delClaim n s).lp.mask = s.lp.mask ∧ (delClaim n s).lp.powerCause = s.lp.powerCause ∧
    (delClaim n s).lp.shedCauses = s.lp.shedCauses ∧ (delClaim n s).lp.raiseCauses = s.lp.raiseCauses ∧
    (delClaim n s).lp.fanCauses = s.lp.fanCauses ∧ (delClaim n s).lp.busCauses = s.lp.busCauses ∧
    (delClaim n s).lp.ejectCauses = s.lp.ejectCauses ∧ (delClaim n s).lp.laneOutcome = s.lp.laneOutcome ∧
    (delClaim n s).lp.laneSlot = s.lp.laneSlot ∧ (delClaim n s).lp.mailQueue = s.lp.mailQueue ∧
    (delClaim n s).lp.overflow = s.lp.overflow ∧ (delClaim n s).lp.box0 = s.lp.box0 ∧
    (delClaim n s).lp.box1 = s.lp.box1 ∧ (delClaim n s).lp.nextTag = s.lp.nextTag ∧
    (delClaim n s).lp.lastFinal = s.lp.lastFinal := by
  generalize h : delClaim n s = t
  unfold delClaim at h
  try dsimp only at h
  (repeat' split at h) <;> subst h <;> simp

end Sys2Proof.Machine
end

