-- ==== Sys2Proof/Laws/Bus.lean ====
section
/-! SUPPORT. What the outbound side of the bus interface leaves unchanged. -/

namespace Sys2Proof.Machine

@[simp] theorem post_frame (k : OwnKind) (m : Mode) (s : State) :
    (post k m s).now = s.now ∧ (post k m s).pending = s.pending ∧ (post k m s).pins = s.pins ∧
    (post k m s).lc = s.lc ∧ (post k m s).bi.rate = s.bi.rate ∧ (post k m s).bi.synced = s.bi.synced ∧
    (post k m s).bi.idle = s.bi.idle ∧
    (post k m s).bi.lanes = s.bi.lanes ∧ (post k m s).bi.mails = s.bi.mails ∧ (post k m s).bi.tx = s.bi.tx ∧
    (post k m s).bi.txState = s.bi.txState ∧ (post k m s).bi.failRun = s.bi.failRun ∧
    (post k m s).bi.mute = s.bi.mute ∧ (post k m s).bi.timerA = s.bi.timerA ∧ (post k m s).bi.timerB = s.bi.timerB ∧
    (post k m s).bi.identityCount = s.bi.identityCount ∧ (post k m s).bi.pulse = s.bi.pulse ∧
    (post k m s).bi.stats = s.bi.stats ∧ (post k m s).ro = s.ro ∧ (post k m s).bu = s.bu ∧ (post k m s).ps = s.ps ∧
    (post k m s).sup = s.sup ∧ (post k m s).sm = s.sm ∧ (post k m s).fc = s.fc ∧ (post k m s).lm = s.lm ∧
    (post k m s).lb = s.lb ∧ (post k m s).lp = s.lp := by
  generalize h : post k m s = t
  unfold post at h
  try dsimp only at h
  (repeat' split at h) <;> subst h <;> simp

@[simp] theorem postPeriodic_frame (k : OwnKind) (s : State) :
    (postPeriodic k s).now = s.now ∧ (postPeriodic k s).pending = s.pending ∧ (postPeriodic k s).pins = s.pins ∧
    (postPeriodic k s).lc = s.lc ∧ (postPeriodic k s).bi.rate = s.bi.rate ∧
    (postPeriodic k s).bi.synced = s.bi.synced ∧ (postPeriodic k s).bi.idle = s.bi.idle ∧
    (postPeriodic k s).bi.lanes = s.bi.lanes ∧ (postPeriodic k s).bi.mails = s.bi.mails ∧
    (postPeriodic k s).bi.tx = s.bi.tx ∧ (postPeriodic k s).bi.txState = s.bi.txState ∧
    (postPeriodic k s).bi.failRun = s.bi.failRun ∧ (postPeriodic k s).bi.mute = s.bi.mute ∧
    (postPeriodic k s).bi.timerA = s.bi.timerA ∧ (postPeriodic k s).bi.timerB = s.bi.timerB ∧
    (postPeriodic k s).bi.identityCount = s.bi.identityCount ∧ (postPeriodic k s).bi.pulse = s.bi.pulse ∧
    (postPeriodic k s).ro = s.ro ∧ (postPeriodic k s).bu = s.bu ∧ (postPeriodic k s).ps = s.ps ∧
    (postPeriodic k s).sup = s.sup ∧ (postPeriodic k s).sm = s.sm ∧ (postPeriodic k s).fc = s.fc ∧
    (postPeriodic k s).lm = s.lm ∧ (postPeriodic k s).lb = s.lb ∧ (postPeriodic k s).lp = s.lp := by
  generalize h : postPeriodic k s = t
  unfold postPeriodic at h
  try dsimp only at h
  (repeat' split at h) <;> subst h <;> simp

@[simp] theorem postGrant_frame (n : Nat) (s : State) :
    (postGrant n s).now = s.now ∧ (postGrant n s).pending = s.pending ∧ (postGrant n s).pins = s.pins ∧
    (postGrant n s).lc = s.lc ∧ (postGrant n s).bi.rate = s.bi.rate ∧ (postGrant n s).bi.synced = s.bi.synced ∧
    (postGrant n s).bi.idle = s.bi.idle ∧
    (postGrant n s).bi.kinds = s.bi.kinds ∧ (postGrant n s).bi.mails = s.bi.mails ∧ (postGrant n s).bi.tx = s.bi.tx ∧
    (postGrant n s).bi.txState = s.bi.txState ∧ (postGrant n s).bi.failRun = s.bi.failRun ∧
    (postGrant n s).bi.mute = s.bi.mute ∧ (postGrant n s).bi.timerA = s.bi.timerA ∧
    (postGrant n s).bi.timerB = s.bi.timerB ∧ (postGrant n s).bi.identityCount = s.bi.identityCount ∧
    (postGrant n s).bi.pulse = s.bi.pulse ∧ (postGrant n s).bi.stats = s.bi.stats ∧ (postGrant n s).ro = s.ro ∧
    (postGrant n s).bu = s.bu ∧ (postGrant n s).ps = s.ps ∧ (postGrant n s).sup = s.sup ∧ (postGrant n s).sm = s.sm ∧
    (postGrant n s).fc = s.fc ∧ (postGrant n s).lb = s.lb ∧ (postGrant n s).lp = s.lp := by
  generalize h : postGrant n s = t
  unfold postGrant at h
  try dsimp only at h
  (repeat' split at h) <;> subst h <;> simp

@[simp] theorem answer_frame (n : Nat) (a : Answer) (s : State) :
    (answer n a s).now = s.now ∧ (answer n a s).pending = s.pending ∧ (answer n a s).pins = s.pins ∧
    (answer n a s).lc = s.lc ∧ (answer n a s).bi.rate = s.bi.rate ∧ (answer n a s).bi.synced = s.bi.synced ∧
    (answer n a s).bi.idle = s.bi.idle ∧
    (answer n a s).bi.kinds = s.bi.kinds ∧ (answer n a s).bi.mails = s.bi.mails ∧ (answer n a s).bi.tx = s.bi.tx ∧
    (answer n a s).bi.txState = s.bi.txState ∧ (answer n a s).bi.failRun = s.bi.failRun ∧
    (answer n a s).bi.mute = s.bi.mute ∧ (answer n a s).bi.timerA = s.bi.timerA ∧
    (answer n a s).bi.timerB = s.bi.timerB ∧ (answer n a s).bi.identityCount = s.bi.identityCount ∧
    (answer n a s).bi.pulse = s.bi.pulse ∧ (answer n a s).bi.stats = s.bi.stats ∧ (answer n a s).ro = s.ro ∧
    (answer n a s).bu = s.bu ∧ (answer n a s).ps = s.ps ∧ (answer n a s).sup = s.sup ∧ (answer n a s).sm = s.sm ∧
    (answer n a s).fc = s.fc ∧ (answer n a s).lb = s.lb ∧ (answer n a s).lp = s.lp := by
  generalize h : answer n a s = t
  unfold answer at h
  try dsimp only at h
  (repeat' split at h) <;> subst h <;> simp

@[simp] theorem postBlade_frame (k : LaneKind) (n : Nat) (s : State) :
    (postBlade k n s).now = s.now ∧ (postBlade k n s).pending = s.pending ∧ (postBlade k n s).pins = s.pins ∧
    (postBlade k n s).lc = s.lc ∧ (postBlade k n s).bi.rate = s.bi.rate ∧
    (postBlade k n s).bi.synced = s.bi.synced ∧ (postBlade k n s).bi.idle = s.bi.idle ∧
    (postBlade k n s).bi.kinds = s.bi.kinds ∧ (postBlade k n s).bi.mails = s.bi.mails ∧
    (postBlade k n s).bi.tx = s.bi.tx ∧ (postBlade k n s).bi.txState = s.bi.txState ∧
    (postBlade k n s).bi.failRun = s.bi.failRun ∧ (postBlade k n s).bi.mute = s.bi.mute ∧
    (postBlade k n s).bi.timerA = s.bi.timerA ∧ (postBlade k n s).bi.timerB = s.bi.timerB ∧
    (postBlade k n s).bi.identityCount = s.bi.identityCount ∧ (postBlade k n s).bi.pulse = s.bi.pulse ∧
    (postBlade k n s).bi.stats = s.bi.stats ∧ (postBlade k n s).ro = s.ro ∧ (postBlade k n s).bu = s.bu ∧
    (postBlade k n s).ps = s.ps ∧ (postBlade k n s).sup = s.sup ∧ (postBlade k n s).sm = s.sm ∧
    (postBlade k n s).fc = s.fc ∧ (postBlade k n s).lm = s.lm ∧ (postBlade k n s).lp = s.lp := by
  generalize h : postBlade k n s = t
  unfold postBlade at h
  try dsimp only at h
  (repeat' split at h) <;> subst h <;> simp

/-- A post of a LANE_RELEASE takes the next free entry, also behind one that is PENDING for the same uplink, or sets the
notify flag of its record (R29, R164). -/
theorem postBlade_release (u : Nat) (r : LaneRecord) (s : State) (h : slotGet s.lb u = some r) :
    postBlade .release u s =
      if s.laneRoom then (s.pushLane .release u).putRecord u { r with notify := false }
      else s.putRecord u { r with notify := true } := by
  simp [postBlade, h, State.standsPosted]

/-- A post of a LANE_REQUEST does the same, but where one is PENDING for its uplink, which stands for it (R166). -/
theorem postBlade_request (u : Nat) (r : LaneRecord) (s : State) (h : slotGet s.lb u = some r) :
    postBlade .request u s =
      if s.hasPending .request u then s.putRecord u { r with notify := false }
      else if s.laneRoom then (s.pushLane .request u).putRecord u { r with notify := false }
      else s.putRecord u { r with notify := true } := by
  simp [postBlade, h, State.standsPosted]

@[simp] theorem laneFreed_frame (s : State) :
    (laneFreed s).now = s.now ∧ (laneFreed s).pending = s.pending ∧ (laneFreed s).pins = s.pins ∧
    (laneFreed s).lc = s.lc ∧ (laneFreed s).bi.rate = s.bi.rate ∧ (laneFreed s).bi.synced = s.bi.synced ∧
    (laneFreed s).bi.idle = s.bi.idle ∧
    (laneFreed s).bi.kinds = s.bi.kinds ∧ (laneFreed s).bi.mails = s.bi.mails ∧ (laneFreed s).bi.tx = s.bi.tx ∧
    (laneFreed s).bi.txState = s.bi.txState ∧ (laneFreed s).bi.failRun = s.bi.failRun ∧
    (laneFreed s).bi.mute = s.bi.mute ∧ (laneFreed s).bi.timerA = s.bi.timerA ∧
    (laneFreed s).bi.timerB = s.bi.timerB ∧ (laneFreed s).bi.identityCount = s.bi.identityCount ∧
    (laneFreed s).bi.pulse = s.bi.pulse ∧ (laneFreed s).bi.stats = s.bi.stats ∧ (laneFreed s).ro = s.ro ∧
    (laneFreed s).bu = s.bu ∧ (laneFreed s).ps = s.ps ∧ (laneFreed s).sup = s.sup ∧ (laneFreed s).sm = s.sm ∧
    (laneFreed s).fc = s.fc ∧ (laneFreed s).lp = s.lp := by
  generalize h : laneFreed s = t
  unfold laneFreed at h
  try dsimp only at h
  (repeat' split at h) <;> subst h <;> simp

@[simp] theorem State.setBox_frame (s : State) (n : Nat) (m : MailStatus) :
    (s.setBox n m).now = s.now ∧ (s.setBox n m).pending = s.pending ∧ (s.setBox n m).pins = s.pins ∧
    (s.setBox n m).lc = s.lc ∧ (s.setBox n m).bi = s.bi ∧ (s.setBox n m).ro = s.ro ∧ (s.setBox n m).bu = s.bu ∧
    (s.setBox n m).ps = s.ps ∧ (s.setBox n m).sup = s.sup ∧ (s.setBox n m).sm = s.sm ∧ (s.setBox n m).fc = s.fc ∧
    (s.setBox n m).lm = s.lm ∧ (s.setBox n m).lb = s.lb ∧ (s.setBox n m).lp.phase = s.lp.phase ∧
    (s.setBox n m).lp.result = s.lp.result ∧ (s.setBox n m).lp.sdo = s.lp.sdo ∧
    (s.setBox n m).lp.lostCommands = s.lp.lostCommands ∧ (s.setBox n m).lp.latched = s.lp.latched ∧
    (s.setBox n m).lp.mask = s.lp.mask ∧ (s.setBox n m).lp.powerCause = s.lp.powerCause ∧
    (s.setBox n m).lp.shedCauses = s.lp.shedCauses ∧ (s.setBox n m).lp.raiseCauses = s.lp.raiseCauses ∧
    (s.setBox n m).lp.fanCauses = s.lp.fanCauses ∧ (s.setBox n m).lp.busCauses = s.lp.busCauses ∧
    (s.setBox n m).lp.ejectCauses = s.lp.ejectCauses ∧ (s.setBox n m).lp.laneOutcome = s.lp.laneOutcome ∧
    (s.setBox n m).lp.laneSlot = s.lp.laneSlot ∧ (s.setBox n m).lp.mailQueue = s.lp.mailQueue ∧
    (s.setBox n m).lp.overflow = s.lp.overflow ∧ (s.setBox n m).lp.nextTag = s.lp.nextTag := by
  unfold State.setBox; dsimp only; (repeat' split) <;> simp

@[simp] theorem State.beginTx_frame (s : State) (c : Choice) (p : List Byte) :
    (s.beginTx c p).now = s.now ∧ (s.beginTx c p).pending = s.pending ∧ (s.beginTx c p).pins = s.pins ∧
    (s.beginTx c p).lc = s.lc ∧ (s.beginTx c p).bi.rate = s.bi.rate ∧ (s.beginTx c p).bi.synced = s.bi.synced ∧
    (s.beginTx c p).bi.txState = s.bi.txState ∧
    (s.beginTx c p).bi.failRun = s.bi.failRun ∧ (s.beginTx c p).bi.mute = s.bi.mute ∧
    (s.beginTx c p).bi.timerA = s.bi.timerA ∧ (s.beginTx c p).bi.timerB = s.bi.timerB ∧
    (s.beginTx c p).bi.identityCount = s.bi.identityCount ∧ (s.beginTx c p).bi.pulse = s.bi.pulse ∧
    (s.beginTx c p).bi.stats = s.bi.stats ∧ (s.beginTx c p).ro = s.ro ∧ (s.beginTx c p).bu = s.bu ∧
    (s.beginTx c p).ps = s.ps ∧ (s.beginTx c p).sup = s.sup ∧ (s.beginTx c p).sm = s.sm ∧ (s.beginTx c p).fc = s.fc ∧
    (s.beginTx c p).lp.phase = s.lp.phase ∧ (s.beginTx c p).lp.result = s.lp.result ∧
    (s.beginTx c p).lp.sdo = s.lp.sdo ∧ (s.beginTx c p).lp.lostCommands = s.lp.lostCommands ∧
    (s.beginTx c p).lp.latched = s.lp.latched ∧ (s.beginTx c p).lp.mask = s.lp.mask ∧
    (s.beginTx c p).lp.powerCause = s.lp.powerCause ∧ (s.beginTx c p).lp.shedCauses = s.lp.shedCauses ∧
    (s.beginTx c p).lp.raiseCauses = s.lp.raiseCauses ∧ (s.beginTx c p).lp.fanCauses = s.lp.fanCauses ∧
    (s.beginTx c p).lp.busCauses = s.lp.busCauses ∧ (s.beginTx c p).lp.ejectCauses = s.lp.ejectCauses ∧
    (s.beginTx c p).lp.laneOutcome = s.lp.laneOutcome ∧ (s.beginTx c p).lp.laneSlot = s.lp.laneSlot ∧
    (s.beginTx c p).lp.mailQueue = s.lp.mailQueue ∧ (s.beginTx c p).lp.overflow = s.lp.overflow ∧
    (s.beginTx c p).lp.nextTag = s.lp.nextTag := by
  unfold State.beginTx; dsimp only; (repeat' split) <;> simp

@[simp] theorem State.emptyChoice_frame (s : State) (c : Choice) :
    (s.emptyChoice c).now = s.now ∧ (s.emptyChoice c).pending = s.pending ∧ (s.emptyChoice c).pins = s.pins ∧
    (s.emptyChoice c).lc = s.lc ∧ (s.emptyChoice c).bi.rate = s.bi.rate ∧ (s.emptyChoice c).bi.synced = s.bi.synced ∧
    (s.emptyChoice c).bi.txState = s.bi.txState ∧ (s.emptyChoice c).bi.failRun = s.bi.failRun ∧
    (s.emptyChoice c).bi.mute = s.bi.mute ∧ (s.emptyChoice c).bi.timerA = s.bi.timerA ∧
    (s.emptyChoice c).bi.timerB = s.bi.timerB ∧ (s.emptyChoice c).bi.identityCount = s.bi.identityCount ∧
    (s.emptyChoice c).bi.pulse = s.bi.pulse ∧ (s.emptyChoice c).bi.stats = s.bi.stats ∧ (s.emptyChoice c).ro = s.ro ∧
    (s.emptyChoice c).bu = s.bu ∧ (s.emptyChoice c).ps = s.ps ∧ (s.emptyChoice c).sup = s.sup ∧
    (s.emptyChoice c).sm = s.sm ∧ (s.emptyChoice c).fc = s.fc ∧ (s.emptyChoice c).lp.phase = s.lp.phase ∧
    (s.emptyChoice c).lp.result = s.lp.result ∧ (s.emptyChoice c).lp.sdo = s.lp.sdo ∧
    (s.emptyChoice c).lp.lostCommands = s.lp.lostCommands ∧ (s.emptyChoice c).lp.latched = s.lp.latched ∧
    (s.emptyChoice c).lp.mask = s.lp.mask ∧ (s.emptyChoice c).lp.powerCause = s.lp.powerCause ∧
    (s.emptyChoice c).lp.shedCauses = s.lp.shedCauses ∧ (s.emptyChoice c).lp.raiseCauses = s.lp.raiseCauses ∧
    (s.emptyChoice c).lp.fanCauses = s.lp.fanCauses ∧ (s.emptyChoice c).lp.busCauses = s.lp.busCauses ∧
    (s.emptyChoice c).lp.ejectCauses = s.lp.ejectCauses ∧ (s.emptyChoice c).lp.laneOutcome = s.lp.laneOutcome ∧
    (s.emptyChoice c).lp.laneSlot = s.lp.laneSlot ∧ (s.emptyChoice c).lp.mailQueue = s.lp.mailQueue ∧
    (s.emptyChoice c).lp.overflow = s.lp.overflow ∧ (s.emptyChoice c).lp.nextTag = s.lp.nextTag := by
  generalize h : s.emptyChoice c = t
  unfold State.emptyChoice at h
  try dsimp only at h
  (repeat' split at h) <;> subst h <;> simp

@[simp] theorem startLoop_frame (n : Nat) (s : State) :
    (startLoop n s).now = s.now ∧ (startLoop n s).pending = s.pending ∧ (startLoop n s).pins = s.pins ∧
    (startLoop n s).lc = s.lc ∧ (startLoop n s).bi.rate = s.bi.rate ∧ (startLoop n s).bi.synced = s.bi.synced ∧
    (startLoop n s).bi.txState = s.bi.txState ∧
    (startLoop n s).bi.failRun = s.bi.failRun ∧ (startLoop n s).bi.mute = s.bi.mute ∧
    (startLoop n s).bi.timerA = s.bi.timerA ∧ (startLoop n s).bi.timerB = s.bi.timerB ∧
    (startLoop n s).bi.identityCount = s.bi.identityCount ∧ (startLoop n s).bi.pulse = s.bi.pulse ∧
    (startLoop n s).bi.stats = s.bi.stats ∧ (startLoop n s).ro = s.ro ∧ (startLoop n s).bu = s.bu ∧
    (startLoop n s).ps = s.ps ∧ (startLoop n s).sup = s.sup ∧ (startLoop n s).sm = s.sm ∧ (startLoop n s).fc = s.fc ∧
    (startLoop n s).lp.phase = s.lp.phase ∧ (startLoop n s).lp.result = s.lp.result ∧
    (startLoop n s).lp.sdo = s.lp.sdo ∧ (startLoop n s).lp.lostCommands = s.lp.lostCommands ∧
    (startLoop n s).lp.latched = s.lp.latched ∧ (startLoop n s).lp.mask = s.lp.mask ∧
    (startLoop n s).lp.powerCause = s.lp.powerCause ∧ (startLoop n s).lp.shedCauses = s.lp.shedCauses ∧
    (startLoop n s).lp.raiseCauses = s.lp.raiseCauses ∧ (startLoop n s).lp.fanCauses = s.lp.fanCauses ∧
    (startLoop n s).lp.busCauses = s.lp.busCauses ∧ (startLoop n s).lp.ejectCauses = s.lp.ejectCauses ∧
    (startLoop n s).lp.laneOutcome = s.lp.laneOutcome ∧ (startLoop n s).lp.laneSlot = s.lp.laneSlot ∧
    (startLoop n s).lp.mailQueue = s.lp.mailQueue ∧ (startLoop n s).lp.overflow = s.lp.overflow ∧
    (startLoop n s).lp.nextTag = s.lp.nextTag := by
  induction n generalizing s with
  | zero => simp [startLoop]
  | succ n ih => unfold startLoop; (repeat' split) <;> simp [ih]

@[simp] theorem startFrame_frame (s : State) :
    (startFrame s).now = s.now ∧ (startFrame s).pending = s.pending ∧ (startFrame s).pins = s.pins ∧
    (startFrame s).lc = s.lc ∧ (startFrame s).bi.rate = s.bi.rate ∧ (startFrame s).bi.synced = s.bi.synced ∧
    (startFrame s).bi.txState = s.bi.txState ∧
    (startFrame s).bi.failRun = s.bi.failRun ∧ (startFrame s).bi.mute = s.bi.mute ∧
    (startFrame s).bi.timerA = s.bi.timerA ∧ (startFrame s).bi.timerB = s.bi.timerB ∧
    (startFrame s).bi.identityCount = s.bi.identityCount ∧ (startFrame s).bi.pulse = s.bi.pulse ∧
    (startFrame s).bi.stats = s.bi.stats ∧ (startFrame s).ro = s.ro ∧ (startFrame s).bu = s.bu ∧
    (startFrame s).ps = s.ps ∧ (startFrame s).sup = s.sup ∧ (startFrame s).sm = s.sm ∧ (startFrame s).fc = s.fc ∧
    (startFrame s).lp.phase = s.lp.phase ∧ (startFrame s).lp.result = s.lp.result ∧
    (startFrame s).lp.sdo = s.lp.sdo ∧ (startFrame s).lp.lostCommands = s.lp.lostCommands ∧
    (startFrame s).lp.latched = s.lp.latched ∧ (startFrame s).lp.mask = s.lp.mask ∧
    (startFrame s).lp.powerCause = s.lp.powerCause ∧ (startFrame s).lp.shedCauses = s.lp.shedCauses ∧
    (startFrame s).lp.raiseCauses = s.lp.raiseCauses ∧ (startFrame s).lp.fanCauses = s.lp.fanCauses ∧
    (startFrame s).lp.busCauses = s.lp.busCauses ∧ (startFrame s).lp.ejectCauses = s.lp.ejectCauses ∧
    (startFrame s).lp.laneOutcome = s.lp.laneOutcome ∧ (startFrame s).lp.laneSlot = s.lp.laneSlot ∧
    (startFrame s).lp.mailQueue = s.lp.mailQueue ∧ (startFrame s).lp.overflow = s.lp.overflow ∧
    (startFrame s).lp.nextTag = s.lp.nextTag := by
  generalize h : startFrame s = t
  unfold startFrame at h
  try dsimp only at h
  (repeat' split at h) <;> subst h <;> simp

@[simp] theorem laneSent_frame (e : LaneEntry) (s : State) :
    (laneSent e s).now = s.now ∧ (laneSent e s).pending = s.pending ∧ (laneSent e s).pins = s.pins ∧
    (laneSent e s).lc = s.lc ∧ (laneSent e s).bi.rate = s.bi.rate ∧ (laneSent e s).bi.synced = s.bi.synced ∧
    (laneSent e s).bi.idle = s.bi.idle ∧
    (laneSent e s).bi.kinds = s.bi.kinds ∧ (laneSent e s).bi.mails = s.bi.mails ∧ (laneSent e s).bi.tx = s.bi.tx ∧
    (laneSent e s).bi.txState = s.bi.txState ∧ (laneSent e s).bi.failRun = s.bi.failRun ∧
    (laneSent e s).bi.mute = s.bi.mute ∧ (laneSent e s).bi.timerA = s.bi.timerA ∧
    (laneSent e s).bi.timerB = s.bi.timerB ∧ (laneSent e s).bi.identityCount = s.bi.identityCount ∧
    (laneSent e s).bi.pulse = s.bi.pulse ∧ (laneSent e s).bi.stats = s.bi.stats ∧ (laneSent e s).ro = s.ro ∧
    (laneSent e s).bu = s.bu ∧ (laneSent e s).ps = s.ps ∧ (laneSent e s).sup = s.sup ∧ (laneSent e s).sm = s.sm ∧
    (laneSent e s).fc = s.fc ∧ (laneSent e s).lp = s.lp := by
  generalize h : laneSent e s = t
  unfold laneSent at h
  try dsimp only at h
  (repeat' split at h) <;> subst h <;> simp

@[simp] theorem endLane_frame (e : Ending) (d : Bool) (s : State) :
    (endLane e d s).now = s.now ∧ (endLane e d s).pending = s.pending ∧ (endLane e d s).pins = s.pins ∧
    (endLane e d s).lc = s.lc ∧ (endLane e d s).bi.rate = s.bi.rate ∧ (endLane e d s).bi.synced = s.bi.synced ∧
    (endLane e d s).bi.idle = s.bi.idle ∧
    (endLane e d s).bi.kinds = s.bi.kinds ∧ (endLane e d s).bi.mails = s.bi.mails ∧ (endLane e d s).bi.tx = s.bi.tx ∧
    (endLane e d s).bi.txState = s.bi.txState ∧ (endLane e d s).bi.failRun = s.bi.failRun ∧
    (endLane e d s).bi.mute = s.bi.mute ∧ (endLane e d s).bi.timerA = s.bi.timerA ∧
    (endLane e d s).bi.timerB = s.bi.timerB ∧ (endLane e d s).bi.identityCount = s.bi.identityCount ∧
    (endLane e d s).bi.pulse = s.bi.pulse ∧ (endLane e d s).bi.stats = s.bi.stats ∧ (endLane e d s).ro = s.ro ∧
    (endLane e d s).bu = s.bu ∧ (endLane e d s).ps = s.ps ∧ (endLane e d s).sup = s.sup ∧ (endLane e d s).sm = s.sm ∧
    (endLane e d s).fc = s.fc ∧ (endLane e d s).lp = s.lp := by
  generalize h : endLane e d s = t
  unfold endLane at h
  try dsimp only at h
  (repeat' split at h) <;> subst h <;> simp

@[simp] theorem endMail_frame (e : Ending) (d : Bool) (s : State) :
    (endMail e d s).now = s.now ∧ (endMail e d s).pending = s.pending ∧ (endMail e d s).pins = s.pins ∧
    (endMail e d s).lc = s.lc ∧ (endMail e d s).bi.rate = s.bi.rate ∧ (endMail e d s).bi.synced = s.bi.synced ∧
    (endMail e d s).bi.idle = s.bi.idle ∧
    (endMail e d s).bi.kinds = s.bi.kinds ∧ (endMail e d s).bi.lanes = s.bi.lanes ∧ (endMail e d s).bi.tx = s.bi.tx ∧
    (endMail e d s).bi.txState = s.bi.txState ∧ (endMail e d s).bi.failRun = s.bi.failRun ∧
    (endMail e d s).bi.mute = s.bi.mute ∧ (endMail e d s).bi.timerA = s.bi.timerA ∧
    (endMail e d s).bi.timerB = s.bi.timerB ∧ (endMail e d s).bi.identityCount = s.bi.identityCount ∧
    (endMail e d s).bi.pulse = s.bi.pulse ∧ (endMail e d s).bi.stats = s.bi.stats ∧ (endMail e d s).ro = s.ro ∧
    (endMail e d s).bu = s.bu ∧ (endMail e d s).ps = s.ps ∧ (endMail e d s).sup = s.sup ∧ (endMail e d s).sm = s.sm ∧
    (endMail e d s).fc = s.fc ∧ (endMail e d s).lm = s.lm ∧ (endMail e d s).lb = s.lb ∧
    (endMail e d s).lp.phase = s.lp.phase ∧ (endMail e d s).lp.result = s.lp.result ∧
    (endMail e d s).lp.sdo = s.lp.sdo ∧ (endMail e d s).lp.lostCommands = s.lp.lostCommands ∧
    (endMail e d s).lp.latched = s.lp.latched ∧ (endMail e d s).lp.mask = s.lp.mask ∧
    (endMail e d s).lp.powerCause = s.lp.powerCause ∧ (endMail e d s).lp.shedCauses = s.lp.shedCauses ∧
    (endMail e d s).lp.raiseCauses = s.lp.raiseCauses ∧ (endMail e d s).lp.fanCauses = s.lp.fanCauses ∧
    (endMail e d s).lp.busCauses = s.lp.busCauses ∧ (endMail e d s).lp.ejectCauses = s.lp.ejectCauses ∧
    (endMail e d s).lp.laneOutcome = s.lp.laneOutcome ∧ (endMail e d s).lp.laneSlot = s.lp.laneSlot ∧
    (endMail e d s).lp.mailQueue = s.lp.mailQueue ∧ (endMail e d s).lp.overflow = s.lp.overflow ∧
    (endMail e d s).lp.nextTag = s.lp.nextTag := by
  generalize h : endMail e d s = t
  unfold endMail at h
  try dsimp only at h
  (repeat' split at h) <;> subst h <;> simp

@[simp] theorem Ending.tally_frame (e : Ending) (b : Bool) (x : BusInterface) :
    (e.tally b x).rate = x.rate ∧ (e.tally b x).synced = x.synced ∧ (e.tally b x).idle = x.idle ∧ (e.tally b x).kinds = x.kinds ∧
    (e.tally b x).lanes = x.lanes ∧ (e.tally b x).mails = x.mails ∧ (e.tally b x).tx = x.tx ∧
    (e.tally b x).txState = x.txState ∧ (e.tally b x).mute = x.mute ∧ (e.tally b x).timerA = x.timerA ∧
    (e.tally b x).timerB = x.timerB ∧ (e.tally b x).identityCount = x.identityCount ∧
    (e.tally b x).pulse = x.pulse := by
  cases e <;> simp [Ending.tally]

@[simp] theorem endTx_frame (t : Tx) (e : Ending) (s : State) :
    (endTx t e s).now = s.now ∧ (endTx t e s).pending = s.pending ∧ (endTx t e s).pins = s.pins ∧
    (endTx t e s).lc = s.lc ∧ (endTx t e s).bi.rate = s.bi.rate ∧ (endTx t e s).bi.synced = s.bi.synced ∧
    (endTx t e s).bi.txState = s.bi.txState ∧
    (endTx t e s).bi.mute = s.bi.mute ∧ (endTx t e s).bi.timerA = s.bi.timerA ∧
    (endTx t e s).bi.timerB = s.bi.timerB ∧ (endTx t e s).bi.identityCount = s.bi.identityCount ∧
    (endTx t e s).bi.pulse = s.bi.pulse ∧ (endTx t e s).ro = s.ro ∧ (endTx t e s).bu = s.bu ∧
    (endTx t e s).ps = s.ps ∧ (endTx t e s).sup = s.sup ∧ (endTx t e s).sm = s.sm ∧ (endTx t e s).fc = s.fc ∧
    (endTx t e s).lp.phase = s.lp.phase ∧ (endTx t e s).lp.result = s.lp.result ∧ (endTx t e s).lp.sdo = s.lp.sdo ∧
    (endTx t e s).lp.lostCommands = s.lp.lostCommands ∧ (endTx t e s).lp.latched = s.lp.latched ∧
    (endTx t e s).lp.mask = s.lp.mask ∧ (endTx t e s).lp.powerCause = s.lp.powerCause ∧
    (endTx t e s).lp.shedCauses = s.lp.shedCauses ∧ (endTx t e s).lp.raiseCauses = s.lp.raiseCauses ∧
    (endTx t e s).lp.fanCauses = s.lp.fanCauses ∧ (endTx t e s).lp.busCauses = s.lp.busCauses ∧
    (endTx t e s).lp.ejectCauses = s.lp.ejectCauses ∧ (endTx t e s).lp.laneOutcome = s.lp.laneOutcome ∧
    (endTx t e s).lp.laneSlot = s.lp.laneSlot ∧ (endTx t e s).lp.mailQueue = s.lp.mailQueue ∧
    (endTx t e s).lp.overflow = s.lp.overflow ∧ (endTx t e s).lp.nextTag = s.lp.nextTag := by
  unfold endTx; dsimp only; (repeat' split) <;> simp

@[simp] theorem abortPending_frame (ms : List MailEntry) (s : State) :
    (abortPending ms s).now = s.now ∧ (abortPending ms s).pending = s.pending ∧ (abortPending ms s).pins = s.pins ∧
    (abortPending ms s).lc = s.lc ∧ (abortPending ms s).bi = s.bi ∧ (abortPending ms s).ro = s.ro ∧
    (abortPending ms s).bu = s.bu ∧ (abortPending ms s).ps = s.ps ∧ (abortPending ms s).sup = s.sup ∧
    (abortPending ms s).sm = s.sm ∧ (abortPending ms s).fc = s.fc ∧ (abortPending ms s).lm = s.lm ∧
    (abortPending ms s).lb = s.lb ∧ (abortPending ms s).lp.phase = s.lp.phase ∧
    (abortPending ms s).lp.result = s.lp.result ∧ (abortPending ms s).lp.sdo = s.lp.sdo ∧
    (abortPending ms s).lp.lostCommands = s.lp.lostCommands ∧ (abortPending ms s).lp.latched = s.lp.latched ∧
    (abortPending ms s).lp.mask = s.lp.mask ∧ (abortPending ms s).lp.powerCause = s.lp.powerCause ∧
    (abortPending ms s).lp.shedCauses = s.lp.shedCauses ∧ (abortPending ms s).lp.raiseCauses = s.lp.raiseCauses ∧
    (abortPending ms s).lp.fanCauses = s.lp.fanCauses ∧ (abortPending ms s).lp.busCauses = s.lp.busCauses ∧
    (abortPending ms s).lp.ejectCauses = s.lp.ejectCauses ∧ (abortPending ms s).lp.laneOutcome = s.lp.laneOutcome ∧
    (abortPending ms s).lp.laneSlot = s.lp.laneSlot ∧ (abortPending ms s).lp.mailQueue = s.lp.mailQueue ∧
    (abortPending ms s).lp.overflow = s.lp.overflow ∧ (abortPending ms s).lp.nextTag = s.lp.nextTag := by
  induction ms generalizing s with
  | nil => simp [abortPending]
  | cons m t ih => unfold abortPending; split <;> simp [ih]

@[simp] theorem emptyOutbound_frame (s : State) :
    (emptyOutbound s).now = s.now ∧ (emptyOutbound s).pending = s.pending ∧ (emptyOutbound s).pins = s.pins ∧
    (emptyOutbound s).lc = s.lc ∧ (emptyOutbound s).bi.rate = s.bi.rate ∧
    (emptyOutbound s).bi.synced = s.bi.synced ∧ (emptyOutbound s).bi.idle = s.bi.idle ∧
    (emptyOutbound s).bi.txState = s.bi.txState ∧ (emptyOutbound s).bi.failRun = s.bi.failRun ∧
    (emptyOutbound s).bi.mute = s.bi.mute ∧ (emptyOutbound s).bi.timerA = s.bi.timerA ∧
    (emptyOutbound s).bi.timerB = s.bi.timerB ∧ (emptyOutbound s).bi.identityCount = s.bi.identityCount ∧
    (emptyOutbound s).bi.pulse = s.bi.pulse ∧ (emptyOutbound s).bi.stats = s.bi.stats ∧ (emptyOutbound s).ro = s.ro ∧
    (emptyOutbound s).bu = s.bu ∧ (emptyOutbound s).ps = s.ps ∧ (emptyOutbound s).sup = s.sup ∧
    (emptyOutbound s).sm = s.sm ∧ (emptyOutbound s).fc = s.fc ∧ (emptyOutbound s).lb = s.lb ∧
    (emptyOutbound s).lp.phase = s.lp.phase ∧ (emptyOutbound s).lp.result = s.lp.result ∧
    (emptyOutbound s).lp.sdo = s.lp.sdo ∧ (emptyOutbound s).lp.lostCommands = s.lp.lostCommands ∧
    (emptyOutbound s).lp.latched = s.lp.latched ∧ (emptyOutbound s).lp.mask = s.lp.mask ∧
    (emptyOutbound s).lp.powerCause = s.lp.powerCause ∧ (emptyOutbound s).lp.shedCauses = s.lp.shedCauses ∧
    (emptyOutbound s).lp.raiseCauses = s.lp.raiseCauses ∧ (emptyOutbound s).lp.fanCauses = s.lp.fanCauses ∧
    (emptyOutbound s).lp.busCauses = s.lp.busCauses ∧ (emptyOutbound s).lp.ejectCauses = s.lp.ejectCauses ∧
    (emptyOutbound s).lp.laneOutcome = s.lp.laneOutcome ∧ (emptyOutbound s).lp.laneSlot = s.lp.laneSlot ∧
    (emptyOutbound s).lp.mailQueue = s.lp.mailQueue ∧ (emptyOutbound s).lp.overflow = s.lp.overflow ∧
    (emptyOutbound s).lp.nextTag = s.lp.nextTag := by
  generalize h : emptyOutbound s = t
  unfold emptyOutbound at h
  try dsimp only at h
  subst h; simp

@[simp] theorem cutOutbound_frame (s : State) :
    (cutOutbound s).now = s.now ∧ (cutOutbound s).pending = s.pending ∧ (cutOutbound s).pins = s.pins ∧
    (cutOutbound s).lc = s.lc ∧ (cutOutbound s).bi.rate = s.bi.rate ∧ (cutOutbound s).bi.synced = s.bi.synced ∧
    (cutOutbound s).bi.idle = s.bi.idle ∧
    (cutOutbound s).bi.txState = s.bi.txState ∧ (cutOutbound s).bi.failRun = s.bi.failRun ∧
    (cutOutbound s).bi.mute = s.bi.mute ∧ (cutOutbound s).bi.timerA = s.bi.timerA ∧
    (cutOutbound s).bi.timerB = s.bi.timerB ∧ (cutOutbound s).bi.identityCount = s.bi.identityCount ∧
    (cutOutbound s).bi.pulse = s.bi.pulse ∧ (cutOutbound s).bi.stats = s.bi.stats ∧ (cutOutbound s).ro = s.ro ∧
    (cutOutbound s).bu = s.bu ∧ (cutOutbound s).ps = s.ps ∧ (cutOutbound s).sup = s.sup ∧ (cutOutbound s).sm = s.sm ∧
    (cutOutbound s).fc = s.fc ∧ (cutOutbound s).lb = s.lb ∧ (cutOutbound s).lp.phase = s.lp.phase ∧
    (cutOutbound s).lp.result = s.lp.result ∧ (cutOutbound s).lp.sdo = s.lp.sdo ∧
    (cutOutbound s).lp.lostCommands = s.lp.lostCommands ∧ (cutOutbound s).lp.latched = s.lp.latched ∧
    (cutOutbound s).lp.mask = s.lp.mask ∧ (cutOutbound s).lp.powerCause = s.lp.powerCause ∧
    (cutOutbound s).lp.shedCauses = s.lp.shedCauses ∧ (cutOutbound s).lp.raiseCauses = s.lp.raiseCauses ∧
    (cutOutbound s).lp.fanCauses = s.lp.fanCauses ∧ (cutOutbound s).lp.busCauses = s.lp.busCauses ∧
    (cutOutbound s).lp.ejectCauses = s.lp.ejectCauses ∧ (cutOutbound s).lp.laneOutcome = s.lp.laneOutcome ∧
    (cutOutbound s).lp.laneSlot = s.lp.laneSlot ∧ (cutOutbound s).lp.mailQueue = s.lp.mailQueue ∧
    (cutOutbound s).lp.overflow = s.lp.overflow ∧ (cutOutbound s).lp.nextTag = s.lp.nextTag := by
  generalize h : cutOutbound s = t
  unfold cutOutbound at h
  try dsimp only at h
  subst h; simp

end Sys2Proof.Machine
end

