-- ==== Sys2Proof/Laws/Sequencer.lean ====
section
/-! SUPPORT. What the lane map and the power sequencer leave unchanged. -/

namespace Sys2Proof.Machine

@[simp] theorem endReservation_frame (s : State) :
    (endReservation s).now = s.now ∧ (endReservation s).pending = s.pending ∧ (endReservation s).pins = s.pins ∧
    (endReservation s).lc = s.lc ∧ (endReservation s).bi = s.bi ∧ (endReservation s).ro = s.ro ∧
    (endReservation s).bu = s.bu ∧ (endReservation s).sup = s.sup ∧ (endReservation s).sm = s.sm ∧
    (endReservation s).fc = s.fc ∧ (endReservation s).lb = s.lb ∧ (endReservation s).lp = s.lp := by
  generalize h : endReservation s = t
  unfold endReservation at h
  try dsimp only at h
  subst h; simp

@[simp] theorem answerAll_frame (a : Answer) (ts : List Nat) (s : State) :
    (answerAll a ts s).now = s.now ∧ (answerAll a ts s).pending = s.pending ∧ (answerAll a ts s).pins = s.pins ∧
    (answerAll a ts s).lc = s.lc ∧ (answerAll a ts s).bi.rate = s.bi.rate ∧
    (answerAll a ts s).bi.synced = s.bi.synced ∧ (answerAll a ts s).bi.idle = s.bi.idle ∧
    (answerAll a ts s).bi.kinds = s.bi.kinds ∧ (answerAll a ts s).bi.mails = s.bi.mails ∧
    (answerAll a ts s).bi.tx = s.bi.tx ∧ (answerAll a ts s).bi.txState = s.bi.txState ∧
    (answerAll a ts s).bi.failRun = s.bi.failRun ∧ (answerAll a ts s).bi.mute = s.bi.mute ∧
    (answerAll a ts s).bi.timerA = s.bi.timerA ∧ (answerAll a ts s).bi.timerB = s.bi.timerB ∧
    (answerAll a ts s).bi.identityCount = s.bi.identityCount ∧ (answerAll a ts s).bi.pulse = s.bi.pulse ∧
    (answerAll a ts s).bi.stats = s.bi.stats ∧ (answerAll a ts s).ro = s.ro ∧ (answerAll a ts s).bu = s.bu ∧
    (answerAll a ts s).ps = s.ps ∧ (answerAll a ts s).sup = s.sup ∧ (answerAll a ts s).sm = s.sm ∧
    (answerAll a ts s).fc = s.fc ∧ (answerAll a ts s).lb = s.lb ∧ (answerAll a ts s).lp = s.lp := by
  induction ts generalizing s with
  | nil => simp [answerAll]
  | cons t ts ih => simp [answerAll, ih]

@[simp] theorem giveUpLanes_frame (a b : Answer) (s : State) :
    (giveUpLanes a b s).now = s.now ∧ (giveUpLanes a b s).pending = s.pending ∧ (giveUpLanes a b s).pins = s.pins ∧
    (giveUpLanes a b s).lc = s.lc ∧ (giveUpLanes a b s).bi.rate = s.bi.rate ∧
    (giveUpLanes a b s).bi.synced = s.bi.synced ∧
    (giveUpLanes a b s).bi.idle = s.bi.idle ∧ (giveUpLanes a b s).bi.kinds = s.bi.kinds ∧
    (giveUpLanes a b s).bi.mails = s.bi.mails ∧ (giveUpLanes a b s).bi.tx = s.bi.tx ∧
    (giveUpLanes a b s).bi.txState = s.bi.txState ∧ (giveUpLanes a b s).bi.failRun = s.bi.failRun ∧
    (giveUpLanes a b s).bi.mute = s.bi.mute ∧ (giveUpLanes a b s).bi.timerA = s.bi.timerA ∧
    (giveUpLanes a b s).bi.timerB = s.bi.timerB ∧ (giveUpLanes a b s).bi.identityCount = s.bi.identityCount ∧
    (giveUpLanes a b s).bi.pulse = s.bi.pulse ∧ (giveUpLanes a b s).bi.stats = s.bi.stats ∧
    (giveUpLanes a b s).ro = s.ro ∧ (giveUpLanes a b s).bu = s.bu ∧ (giveUpLanes a b s).sup = s.sup ∧
    (giveUpLanes a b s).sm = s.sm ∧ (giveUpLanes a b s).fc = s.fc ∧ (giveUpLanes a b s).lb = s.lb ∧
    (giveUpLanes a b s).lp = s.lp := by
  generalize h : giveUpLanes a b s = t
  unfold giveUpLanes at h
  try dsimp only at h
  subst h; simp

@[simp] theorem ownShed_frame (s : State) :
    (ownShed s).now = s.now ∧ (ownShed s).pending = s.pending ∧ (ownShed s).pins = s.pins ∧ (ownShed s).lc = s.lc ∧
    (ownShed s).bi.rate = s.bi.rate ∧ (ownShed s).bi.synced = s.bi.synced ∧ (ownShed s).bi.idle = s.bi.idle ∧
    (ownShed s).bi.kinds = s.bi.kinds ∧
    (ownShed s).bi.mails = s.bi.mails ∧ (ownShed s).bi.tx = s.bi.tx ∧ (ownShed s).bi.txState = s.bi.txState ∧
    (ownShed s).bi.failRun = s.bi.failRun ∧ (ownShed s).bi.mute = s.bi.mute ∧ (ownShed s).bi.timerA = s.bi.timerA ∧
    (ownShed s).bi.timerB = s.bi.timerB ∧ (ownShed s).bi.identityCount = s.bi.identityCount ∧
    (ownShed s).bi.pulse = s.bi.pulse ∧ (ownShed s).bi.stats = s.bi.stats ∧ (ownShed s).ro = s.ro ∧
    (ownShed s).bu = s.bu ∧ (ownShed s).sup = s.sup ∧ (ownShed s).sm = s.sm ∧ (ownShed s).fc = s.fc ∧
    (ownShed s).lb = s.lb ∧ (ownShed s).lp = s.lp := by
  generalize h : ownShed s = t
  unfold ownShed at h
  try dsimp only at h
  (repeat' split at h) <;> subst h <;> simp

@[simp] theorem releaseRecord_frame (n : Nat) (s : State) :
    (releaseRecord n s).now = s.now ∧ (releaseRecord n s).pending = s.pending ∧ (releaseRecord n s).pins = s.pins ∧
    (releaseRecord n s).lc = s.lc ∧ (releaseRecord n s).bi.rate = s.bi.rate ∧
    (releaseRecord n s).bi.synced = s.bi.synced ∧
    (releaseRecord n s).bi.idle = s.bi.idle ∧ (releaseRecord n s).bi.kinds = s.bi.kinds ∧
    (releaseRecord n s).bi.mails = s.bi.mails ∧ (releaseRecord n s).bi.tx = s.bi.tx ∧
    (releaseRecord n s).bi.txState = s.bi.txState ∧ (releaseRecord n s).bi.failRun = s.bi.failRun ∧
    (releaseRecord n s).bi.mute = s.bi.mute ∧ (releaseRecord n s).bi.timerA = s.bi.timerA ∧
    (releaseRecord n s).bi.timerB = s.bi.timerB ∧ (releaseRecord n s).bi.identityCount = s.bi.identityCount ∧
    (releaseRecord n s).bi.pulse = s.bi.pulse ∧ (releaseRecord n s).bi.stats = s.bi.stats ∧
    (releaseRecord n s).ro = s.ro ∧ (releaseRecord n s).bu = s.bu ∧ (releaseRecord n s).ps = s.ps ∧
    (releaseRecord n s).sup = s.sup ∧ (releaseRecord n s).sm = s.sm ∧ (releaseRecord n s).fc = s.fc ∧
    (releaseRecord n s).lm = s.lm ∧ (releaseRecord n s).lp = s.lp := by
  generalize h : releaseRecord n s = t
  unfold releaseRecord at h
  try dsimp only at h
  (repeat' split at h) <;> subst h <;> simp

@[simp] theorem releaseRecords_frame (us : List Nat) (s : State) :
    (releaseRecords us s).now = s.now ∧ (releaseRecords us s).pending = s.pending ∧
    (releaseRecords us s).pins = s.pins ∧ (releaseRecords us s).lc = s.lc ∧
    (releaseRecords us s).bi.rate = s.bi.rate ∧ (releaseRecords us s).bi.synced = s.bi.synced ∧
    (releaseRecords us s).bi.idle = s.bi.idle ∧
    (releaseRecords us s).bi.kinds = s.bi.kinds ∧ (releaseRecords us s).bi.mails = s.bi.mails ∧
    (releaseRecords us s).bi.tx = s.bi.tx ∧ (releaseRecords us s).bi.txState = s.bi.txState ∧
    (releaseRecords us s).bi.failRun = s.bi.failRun ∧ (releaseRecords us s).bi.mute = s.bi.mute ∧
    (releaseRecords us s).bi.timerA = s.bi.timerA ∧ (releaseRecords us s).bi.timerB = s.bi.timerB ∧
    (releaseRecords us s).bi.identityCount = s.bi.identityCount ∧ (releaseRecords us s).bi.pulse = s.bi.pulse ∧
    (releaseRecords us s).bi.stats = s.bi.stats ∧ (releaseRecords us s).ro = s.ro ∧ (releaseRecords us s).bu = s.bu ∧
    (releaseRecords us s).ps = s.ps ∧ (releaseRecords us s).sup = s.sup ∧ (releaseRecords us s).sm = s.sm ∧
    (releaseRecords us s).fc = s.fc ∧ (releaseRecords us s).lm = s.lm ∧ (releaseRecords us s).lp = s.lp := by
  induction us generalizing s with
  | nil => simp [releaseRecords]
  | cons u us ih => simp [releaseRecords, ih]

@[simp] theorem leavingOn_frame (r : LaneReason) (s : State) :
    (leavingOn r s).now = s.now ∧ (leavingOn r s).pending = s.pending ∧ (leavingOn r s).pins = s.pins ∧
    (leavingOn r s).lc = s.lc ∧ (leavingOn r s).bi.rate = s.bi.rate ∧ (leavingOn r s).bi.synced = s.bi.synced ∧
    (leavingOn r s).bi.idle = s.bi.idle ∧
    (leavingOn r s).bi.kinds = s.bi.kinds ∧ (leavingOn r s).bi.mails = s.bi.mails ∧ (leavingOn r s).bi.tx = s.bi.tx ∧
    (leavingOn r s).bi.txState = s.bi.txState ∧ (leavingOn r s).bi.failRun = s.bi.failRun ∧
    (leavingOn r s).bi.mute = s.bi.mute ∧ (leavingOn r s).bi.timerA = s.bi.timerA ∧
    (leavingOn r s).bi.timerB = s.bi.timerB ∧ (leavingOn r s).bi.identityCount = s.bi.identityCount ∧
    (leavingOn r s).bi.pulse = s.bi.pulse ∧ (leavingOn r s).bi.stats = s.bi.stats ∧ (leavingOn r s).ro = s.ro ∧
    (leavingOn r s).bu = s.bu ∧ (leavingOn r s).sup = s.sup ∧ (leavingOn r s).sm = s.sm ∧ (leavingOn r s).fc = s.fc ∧
    (leavingOn r s).lp = s.lp := by
  generalize h : leavingOn r s = t
  unfold leavingOn at h
  try dsimp only at h
  (repeat' split at h) <;> subst h <;> simp

@[simp] theorem writeClaim_frame (n : Nat) (s : State) :
    (writeClaim n s).now = s.now ∧ (writeClaim n s).pending = s.pending ∧ (writeClaim n s).pins = s.pins ∧
    (writeClaim n s).lc = s.lc ∧ (writeClaim n s).bi.rate = s.bi.rate ∧ (writeClaim n s).bi.synced = s.bi.synced ∧
    (writeClaim n s).bi.idle = s.bi.idle ∧
    (writeClaim n s).bi.lanes = s.bi.lanes ∧ (writeClaim n s).bi.mails = s.bi.mails ∧
    (writeClaim n s).bi.tx = s.bi.tx ∧ (writeClaim n s).bi.txState = s.bi.txState ∧
    (writeClaim n s).bi.failRun = s.bi.failRun ∧ (writeClaim n s).bi.mute = s.bi.mute ∧
    (writeClaim n s).bi.timerA = s.bi.timerA ∧ (writeClaim n s).bi.timerB = s.bi.timerB ∧
    (writeClaim n s).bi.identityCount = s.bi.identityCount ∧ (writeClaim n s).bi.pulse = s.bi.pulse ∧
    (writeClaim n s).bi.stats = s.bi.stats ∧ (writeClaim n s).ro = s.ro ∧ (writeClaim n s).ps = s.ps ∧
    (writeClaim n s).sup = s.sup ∧ (writeClaim n s).sm = s.sm ∧ (writeClaim n s).fc = s.fc ∧
    (writeClaim n s).lm = s.lm ∧ (writeClaim n s).lb = s.lb ∧ (writeClaim n s).lp.phase = s.lp.phase ∧
    (writeClaim n s).lp.result = s.lp.result ∧ (writeClaim n s).lp.sdo = s.lp.sdo ∧
    (writeClaim n s).lp.lostCommands = s.lp.lostCommands ∧ (writeClaim n s).lp.mask = s.lp.mask ∧
    (writeClaim n s).lp.powerCause = s.lp.powerCause ∧ (writeClaim n s).lp.shedCauses = s.lp.shedCauses ∧
    (writeClaim n s).lp.raiseCauses = s.lp.raiseCauses ∧ (writeClaim n s).lp.fanCauses = s.lp.fanCauses ∧
    (writeClaim n s).lp.busCauses = s.lp.busCauses ∧ (writeClaim n s).lp.ejectCauses = s.lp.ejectCauses ∧
    (writeClaim n s).lp.laneOutcome = s.lp.laneOutcome ∧ (writeClaim n s).lp.laneSlot = s.lp.laneSlot ∧
    (writeClaim n s).lp.mailQueue = s.lp.mailQueue ∧ (writeClaim n s).lp.overflow = s.lp.overflow ∧
    (writeClaim n s).lp.box0 = s.lp.box0 ∧ (writeClaim n s).lp.box1 = s.lp.box1 ∧
    (writeClaim n s).lp.nextTag = s.lp.nextTag ∧ (writeClaim n s).lp.lastFinal = s.lp.lastFinal := by
  generalize h : writeClaim n s = t
  unfold writeClaim at h
  try dsimp only at h
  (repeat' split at h) <;> subst h <;> simp

@[simp] theorem withdraw_frame (s : State) :
    (withdraw s).now = s.now ∧ (withdraw s).pending = s.pending ∧ (withdraw s).pins = s.pins ∧
    (withdraw s).lc = s.lc ∧ (withdraw s).bi.rate = s.bi.rate ∧ (withdraw s).bi.synced = s.bi.synced ∧
    (withdraw s).bi.idle = s.bi.idle ∧
    (withdraw s).bi.lanes = s.bi.lanes ∧ (withdraw s).bi.mails = s.bi.mails ∧ (withdraw s).bi.tx = s.bi.tx ∧
    (withdraw s).bi.txState = s.bi.txState ∧ (withdraw s).bi.failRun = s.bi.failRun ∧
    (withdraw s).bi.mute = s.bi.mute ∧ (withdraw s).bi.timerA = s.bi.timerA ∧ (withdraw s).bi.timerB = s.bi.timerB ∧
    (withdraw s).bi.identityCount = s.bi.identityCount ∧ (withdraw s).bi.pulse = s.bi.pulse ∧
    (withdraw s).bi.stats = s.bi.stats ∧ (withdraw s).ro = s.ro ∧ (withdraw s).ps = s.ps ∧ (withdraw s).sup = s.sup ∧
    (withdraw s).sm = s.sm ∧ (withdraw s).fc = s.fc ∧ (withdraw s).lm = s.lm ∧ (withdraw s).lb = s.lb ∧
    (withdraw s).lp.phase = s.lp.phase ∧ (withdraw s).lp.result = s.lp.result ∧ (withdraw s).lp.sdo = s.lp.sdo ∧
    (withdraw s).lp.lostCommands = s.lp.lostCommands ∧ (withdraw s).lp.mask = s.lp.mask ∧
    (withdraw s).lp.powerCause = s.lp.powerCause ∧ (withdraw s).lp.shedCauses = s.lp.shedCauses ∧
    (withdraw s).lp.raiseCauses = s.lp.raiseCauses ∧ (withdraw s).lp.fanCauses = s.lp.fanCauses ∧
    (withdraw s).lp.busCauses = s.lp.busCauses ∧ (withdraw s).lp.ejectCauses = s.lp.ejectCauses ∧
    (withdraw s).lp.laneOutcome = s.lp.laneOutcome ∧ (withdraw s).lp.laneSlot = s.lp.laneSlot ∧
    (withdraw s).lp.mailQueue = s.lp.mailQueue ∧ (withdraw s).lp.overflow = s.lp.overflow ∧
    (withdraw s).lp.box0 = s.lp.box0 ∧ (withdraw s).lp.box1 = s.lp.box1 ∧ (withdraw s).lp.nextTag = s.lp.nextTag ∧
    (withdraw s).lp.lastFinal = s.lp.lastFinal := by
  generalize h : withdraw s = t
  unfold withdraw at h
  try dsimp only at h
  (repeat' split at h) <;> subst h <;> simp

@[simp] theorem falls_frame (s : State) :
    (falls s).now = s.now ∧ (falls s).pending = s.pending ∧ (falls s).pins = s.pins ∧ (falls s).lc = s.lc ∧
    (falls s).bi = s.bi ∧ (falls s).ro = s.ro ∧ (falls s).bu = s.bu ∧ (falls s).sup = s.sup ∧ (falls s).sm = s.sm ∧
    (falls s).fc = s.fc ∧ (falls s).lm = s.lm ∧ (falls s).lb = s.lb ∧ (falls s).lp = s.lp := by
  generalize h : falls s = t
  unfold falls at h
  try dsimp only at h
  subst h; simp

@[simp] theorem stopRaise_frame (s : State) :
    (stopRaise s).now = s.now ∧ (stopRaise s).pending = s.pending ∧ (stopRaise s).pins = s.pins ∧
    (stopRaise s).lc = s.lc ∧ (stopRaise s).bi = s.bi ∧ (stopRaise s).ro = s.ro ∧ (stopRaise s).bu = s.bu ∧
    (stopRaise s).sup = s.sup ∧ (stopRaise s).sm = s.sm ∧ (stopRaise s).fc = s.fc ∧ (stopRaise s).lm = s.lm ∧
    (stopRaise s).lb = s.lb ∧ (stopRaise s).lp = s.lp := by
  generalize h : stopRaise s = t
  unfold stopRaise at h
  try dsimp only at h
  subst h; simp

@[simp] theorem restartShedHold_frame (c : ShedCause) (s : State) :
    (restartShedHold c s).now = s.now ∧ (restartShedHold c s).pending = s.pending ∧
    (restartShedHold c s).pins = s.pins ∧ (restartShedHold c s).lc = s.lc ∧ (restartShedHold c s).bi = s.bi ∧
    (restartShedHold c s).ro = s.ro ∧ (restartShedHold c s).bu = s.bu ∧ (restartShedHold c s).sup = s.sup ∧
    (restartShedHold c s).sm = s.sm ∧ (restartShedHold c s).fc = s.fc ∧ (restartShedHold c s).lm = s.lm ∧
    (restartShedHold c s).lb = s.lb ∧ (restartShedHold c s).lp = s.lp := by
  generalize h : restartShedHold c s = t
  unfold restartShedHold at h
  try dsimp only at h
  subst h; simp

@[simp] theorem restartHoldOff_frame (s : State) :
    (restartHoldOff s).now = s.now ∧ (restartHoldOff s).pending = s.pending ∧ (restartHoldOff s).pins = s.pins ∧
    (restartHoldOff s).lc = s.lc ∧ (restartHoldOff s).bi = s.bi ∧ (restartHoldOff s).ro = s.ro ∧
    (restartHoldOff s).bu = s.bu ∧ (restartHoldOff s).sup = s.sup ∧ (restartHoldOff s).sm = s.sm ∧
    (restartHoldOff s).fc = s.fc ∧ (restartHoldOff s).lm = s.lm ∧ (restartHoldOff s).lb = s.lb ∧
    (restartHoldOff s).lp = s.lp := by
  generalize h : restartHoldOff s = t
  unfold restartHoldOff at h
  try dsimp only at h
  subst h; simp

@[simp] theorem enterClaiming_frame (s : State) :
    (enterClaiming s).now = s.now ∧ (enterClaiming s).pending = s.pending ∧ (enterClaiming s).pins = s.pins ∧
    (enterClaiming s).lc = s.lc ∧ (enterClaiming s).bi.rate = s.bi.rate ∧
    (enterClaiming s).bi.synced = s.bi.synced ∧ (enterClaiming s).bi.idle = s.bi.idle ∧
    (enterClaiming s).bi.lanes = s.bi.lanes ∧ (enterClaiming s).bi.mails = s.bi.mails ∧
    (enterClaiming s).bi.tx = s.bi.tx ∧ (enterClaiming s).bi.txState = s.bi.txState ∧
    (enterClaiming s).bi.failRun = s.bi.failRun ∧ (enterClaiming s).bi.mute = s.bi.mute ∧
    (enterClaiming s).bi.timerA = s.bi.timerA ∧ (enterClaiming s).bi.timerB = s.bi.timerB ∧
    (enterClaiming s).bi.identityCount = s.bi.identityCount ∧ (enterClaiming s).bi.pulse = s.bi.pulse ∧
    (enterClaiming s).bi.stats = s.bi.stats ∧ (enterClaiming s).ro = s.ro ∧ (enterClaiming s).sup = s.sup ∧
    (enterClaiming s).sm = s.sm ∧ (enterClaiming s).fc = s.fc ∧ (enterClaiming s).lm = s.lm ∧
    (enterClaiming s).lb = s.lb ∧ (enterClaiming s).lp.phase = s.lp.phase ∧
    (enterClaiming s).lp.result = s.lp.result ∧ (enterClaiming s).lp.sdo = s.lp.sdo ∧
    (enterClaiming s).lp.lostCommands = s.lp.lostCommands ∧ (enterClaiming s).lp.mask = s.lp.mask ∧
    (enterClaiming s).lp.fanCauses = s.lp.fanCauses ∧ (enterClaiming s).lp.busCauses = s.lp.busCauses ∧
    (enterClaiming s).lp.ejectCauses = s.lp.ejectCauses ∧ (enterClaiming s).lp.laneOutcome = s.lp.laneOutcome ∧
    (enterClaiming s).lp.laneSlot = s.lp.laneSlot ∧ (enterClaiming s).lp.mailQueue = s.lp.mailQueue ∧
    (enterClaiming s).lp.overflow = s.lp.overflow ∧ (enterClaiming s).lp.box0 = s.lp.box0 ∧
    (enterClaiming s).lp.box1 = s.lp.box1 ∧ (enterClaiming s).lp.nextTag = s.lp.nextTag ∧
    (enterClaiming s).lp.lastFinal = s.lp.lastFinal := by
  generalize h : enterClaiming s = t
  unfold enterClaiming at h
  try dsimp only at h
  subst h; simp

@[simp] theorem endCooldown_frame (s : State) :
    (endCooldown s).now = s.now ∧ (endCooldown s).pending = s.pending ∧ (endCooldown s).pins = s.pins ∧
    (endCooldown s).lc = s.lc ∧ (endCooldown s).bi.rate = s.bi.rate ∧ (endCooldown s).bi.synced = s.bi.synced ∧
    (endCooldown s).bi.idle = s.bi.idle ∧
    (endCooldown s).bi.lanes = s.bi.lanes ∧ (endCooldown s).bi.mails = s.bi.mails ∧ (endCooldown s).bi.tx = s.bi.tx ∧
    (endCooldown s).bi.txState = s.bi.txState ∧ (endCooldown s).bi.failRun = s.bi.failRun ∧
    (endCooldown s).bi.mute = s.bi.mute ∧ (endCooldown s).bi.timerA = s.bi.timerA ∧
    (endCooldown s).bi.timerB = s.bi.timerB ∧ (endCooldown s).bi.identityCount = s.bi.identityCount ∧
    (endCooldown s).bi.pulse = s.bi.pulse ∧ (endCooldown s).bi.stats = s.bi.stats ∧ (endCooldown s).ro = s.ro ∧
    (endCooldown s).sup = s.sup ∧ (endCooldown s).sm = s.sm ∧ (endCooldown s).fc = s.fc ∧ (endCooldown s).lm = s.lm ∧
    (endCooldown s).lb = s.lb ∧ (endCooldown s).lp.phase = s.lp.phase ∧ (endCooldown s).lp.result = s.lp.result ∧
    (endCooldown s).lp.sdo = s.lp.sdo ∧ (endCooldown s).lp.lostCommands = s.lp.lostCommands ∧
    (endCooldown s).lp.mask = s.lp.mask ∧ (endCooldown s).lp.fanCauses = s.lp.fanCauses ∧
    (endCooldown s).lp.busCauses = s.lp.busCauses ∧ (endCooldown s).lp.ejectCauses = s.lp.ejectCauses ∧
    (endCooldown s).lp.laneOutcome = s.lp.laneOutcome ∧ (endCooldown s).lp.laneSlot = s.lp.laneSlot ∧
    (endCooldown s).lp.mailQueue = s.lp.mailQueue ∧ (endCooldown s).lp.overflow = s.lp.overflow ∧
    (endCooldown s).lp.box0 = s.lp.box0 ∧ (endCooldown s).lp.box1 = s.lp.box1 ∧
    (endCooldown s).lp.nextTag = s.lp.nextTag ∧ (endCooldown s).lp.lastFinal = s.lp.lastFinal := by
  generalize h : endCooldown s = t
  unfold endCooldown at h
  try dsimp only at h
  (repeat' split at h) <;> subst h <;> simp

@[simp] theorem enterCooldown_frame (r : OffReason) (s : State) :
    (enterCooldown r s).now = s.now ∧ (enterCooldown r s).pending = s.pending ∧ (enterCooldown r s).pins = s.pins ∧
    (enterCooldown r s).lc = s.lc ∧ (enterCooldown r s).bi = s.bi ∧ (enterCooldown r s).ro = s.ro ∧
    (enterCooldown r s).bu = s.bu ∧ (enterCooldown r s).sup = s.sup ∧ (enterCooldown r s).sm = s.sm ∧
    (enterCooldown r s).fc = s.fc ∧ (enterCooldown r s).lm = s.lm ∧ (enterCooldown r s).lb = s.lb ∧
    (enterCooldown r s).lp = s.lp ∧ (enterCooldown r s).ps.power = .cooldown ∧
    (enterCooldown r s).ps.reason = r := by
  simp [enterCooldown]

@[simp] theorem faultPath_frame (r : OffReason) (c : PowerCause) (s : State) :
    (faultPath r c s).now = s.now ∧ (faultPath r c s).pending = s.pending ∧ (faultPath r c s).pins = s.pins ∧
    (faultPath r c s).lc = s.lc ∧ (faultPath r c s).bi.rate = s.bi.rate ∧
    (faultPath r c s).bi.synced = s.bi.synced ∧ (faultPath r c s).bi.idle = s.bi.idle ∧
    (faultPath r c s).bi.mails = s.bi.mails ∧ (faultPath r c s).bi.tx = s.bi.tx ∧
    (faultPath r c s).bi.txState = s.bi.txState ∧ (faultPath r c s).bi.failRun = s.bi.failRun ∧
    (faultPath r c s).bi.mute = s.bi.mute ∧ (faultPath r c s).bi.timerA = s.bi.timerA ∧
    (faultPath r c s).bi.timerB = s.bi.timerB ∧ (faultPath r c s).bi.identityCount = s.bi.identityCount ∧
    (faultPath r c s).bi.pulse = s.bi.pulse ∧ (faultPath r c s).bi.stats = s.bi.stats ∧ (faultPath r c s).ro = s.ro ∧
    (faultPath r c s).sup = s.sup ∧ (faultPath r c s).sm = s.sm ∧ (faultPath r c s).fc = s.fc ∧
    (faultPath r c s).lp.phase = s.lp.phase ∧ (faultPath r c s).lp.result = s.lp.result ∧
    (faultPath r c s).lp.sdo = s.lp.sdo ∧ (faultPath r c s).lp.lostCommands = s.lp.lostCommands ∧
    (faultPath r c s).lp.mask = s.lp.mask ∧ (faultPath r c s).lp.fanCauses = s.lp.fanCauses ∧
    (faultPath r c s).lp.busCauses = s.lp.busCauses ∧ (faultPath r c s).lp.ejectCauses = s.lp.ejectCauses ∧
    (faultPath r c s).lp.laneOutcome = s.lp.laneOutcome ∧ (faultPath r c s).lp.laneSlot = s.lp.laneSlot ∧
    (faultPath r c s).lp.mailQueue = s.lp.mailQueue ∧ (faultPath r c s).lp.overflow = s.lp.overflow ∧
    (faultPath r c s).lp.box0 = s.lp.box0 ∧ (faultPath r c s).lp.box1 = s.lp.box1 ∧
    (faultPath r c s).lp.nextTag = s.lp.nextTag ∧ (faultPath r c s).lp.lastFinal = s.lp.lastFinal := by
  generalize h : faultPath r c s = t
  unfold faultPath at h
  try dsimp only at h
  (repeat' split at h) <;> subst h <;> simp

@[simp] theorem endStopping_frame (s : State) :
    (endStopping s).now = s.now ∧ (endStopping s).pending = s.pending ∧ (endStopping s).pins = s.pins ∧
    (endStopping s).lc = s.lc ∧ (endStopping s).bi.rate = s.bi.rate ∧ (endStopping s).bi.synced = s.bi.synced ∧
    (endStopping s).bi.idle = s.bi.idle ∧
    (endStopping s).bi.lanes = s.bi.lanes ∧ (endStopping s).bi.mails = s.bi.mails ∧ (endStopping s).bi.tx = s.bi.tx ∧
    (endStopping s).bi.txState = s.bi.txState ∧ (endStopping s).bi.failRun = s.bi.failRun ∧
    (endStopping s).bi.mute = s.bi.mute ∧ (endStopping s).bi.timerA = s.bi.timerA ∧
    (endStopping s).bi.timerB = s.bi.timerB ∧ (endStopping s).bi.identityCount = s.bi.identityCount ∧
    (endStopping s).bi.pulse = s.bi.pulse ∧ (endStopping s).bi.stats = s.bi.stats ∧ (endStopping s).ro = s.ro ∧
    (endStopping s).sup = s.sup ∧ (endStopping s).sm = s.sm ∧ (endStopping s).fc = s.fc ∧ (endStopping s).lm = s.lm ∧
    (endStopping s).lb = s.lb ∧ (endStopping s).lp.phase = s.lp.phase ∧ (endStopping s).lp.result = s.lp.result ∧
    (endStopping s).lp.sdo = s.lp.sdo ∧ (endStopping s).lp.lostCommands = s.lp.lostCommands ∧
    (endStopping s).lp.mask = s.lp.mask ∧ (endStopping s).lp.fanCauses = s.lp.fanCauses ∧
    (endStopping s).lp.busCauses = s.lp.busCauses ∧ (endStopping s).lp.ejectCauses = s.lp.ejectCauses ∧
    (endStopping s).lp.laneOutcome = s.lp.laneOutcome ∧ (endStopping s).lp.laneSlot = s.lp.laneSlot ∧
    (endStopping s).lp.mailQueue = s.lp.mailQueue ∧ (endStopping s).lp.overflow = s.lp.overflow ∧
    (endStopping s).lp.box0 = s.lp.box0 ∧ (endStopping s).lp.box1 = s.lp.box1 ∧
    (endStopping s).lp.nextTag = s.lp.nextTag ∧ (endStopping s).lp.lastFinal = s.lp.lastFinal := by
  generalize h : endStopping s = t
  unfold endStopping at h
  try dsimp only at h
  subst h; simp

@[simp] theorem powerOffPath_frame (s : State) :
    (powerOffPath s).now = s.now ∧ (powerOffPath s).pending = s.pending ∧ (powerOffPath s).pins = s.pins ∧
    (powerOffPath s).lc = s.lc ∧ (powerOffPath s).bi.rate = s.bi.rate ∧ (powerOffPath s).bi.synced = s.bi.synced ∧
    (powerOffPath s).bi.idle = s.bi.idle ∧
    (powerOffPath s).bi.mails = s.bi.mails ∧ (powerOffPath s).bi.tx = s.bi.tx ∧
    (powerOffPath s).bi.txState = s.bi.txState ∧ (powerOffPath s).bi.failRun = s.bi.failRun ∧
    (powerOffPath s).bi.mute = s.bi.mute ∧ (powerOffPath s).bi.timerA = s.bi.timerA ∧
    (powerOffPath s).bi.timerB = s.bi.timerB ∧ (powerOffPath s).bi.identityCount = s.bi.identityCount ∧
    (powerOffPath s).bi.pulse = s.bi.pulse ∧ (powerOffPath s).bi.stats = s.bi.stats ∧ (powerOffPath s).ro = s.ro ∧
    (powerOffPath s).sup = s.sup ∧ (powerOffPath s).sm = s.sm ∧ (powerOffPath s).fc = s.fc ∧
    (powerOffPath s).lp.phase = s.lp.phase ∧ (powerOffPath s).lp.result = s.lp.result ∧
    (powerOffPath s).lp.sdo = s.lp.sdo ∧ (powerOffPath s).lp.lostCommands = s.lp.lostCommands ∧
    (powerOffPath s).lp.mask = s.lp.mask ∧ (powerOffPath s).lp.fanCauses = s.lp.fanCauses ∧
    (powerOffPath s).lp.busCauses = s.lp.busCauses ∧ (powerOffPath s).lp.ejectCauses = s.lp.ejectCauses ∧
    (powerOffPath s).lp.laneOutcome = s.lp.laneOutcome ∧ (powerOffPath s).lp.laneSlot = s.lp.laneSlot ∧
    (powerOffPath s).lp.mailQueue = s.lp.mailQueue ∧ (powerOffPath s).lp.overflow = s.lp.overflow ∧
    (powerOffPath s).lp.box0 = s.lp.box0 ∧ (powerOffPath s).lp.box1 = s.lp.box1 ∧
    (powerOffPath s).lp.nextTag = s.lp.nextTag ∧ (powerOffPath s).lp.lastFinal = s.lp.lastFinal := by
  generalize h : powerOffPath s = t
  unfold powerOffPath at h
  try dsimp only at h
  (repeat' split at h) <;> subst h <;> simp

@[simp] theorem forcedOff_frame (c : ShedCause) (s : State) :
    (forcedOff c s).now = s.now ∧ (forcedOff c s).pending = s.pending ∧ (forcedOff c s).pins = s.pins ∧
    (forcedOff c s).lc = s.lc ∧ (forcedOff c s).bi.rate = s.bi.rate ∧ (forcedOff c s).bi.synced = s.bi.synced ∧
    (forcedOff c s).bi.idle = s.bi.idle ∧
    (forcedOff c s).bi.mails = s.bi.mails ∧ (forcedOff c s).bi.tx = s.bi.tx ∧
    (forcedOff c s).bi.txState = s.bi.txState ∧ (forcedOff c s).bi.failRun = s.bi.failRun ∧
    (forcedOff c s).bi.mute = s.bi.mute ∧ (forcedOff c s).bi.timerA = s.bi.timerA ∧
    (forcedOff c s).bi.timerB = s.bi.timerB ∧ (forcedOff c s).bi.identityCount = s.bi.identityCount ∧
    (forcedOff c s).bi.pulse = s.bi.pulse ∧ (forcedOff c s).bi.stats = s.bi.stats ∧ (forcedOff c s).ro = s.ro ∧
    (forcedOff c s).sup = s.sup ∧ (forcedOff c s).sm = s.sm ∧ (forcedOff c s).fc = s.fc ∧
    (forcedOff c s).lp.phase = s.lp.phase ∧ (forcedOff c s).lp.result = s.lp.result ∧
    (forcedOff c s).lp.sdo = s.lp.sdo ∧ (forcedOff c s).lp.lostCommands = s.lp.lostCommands ∧
    (forcedOff c s).lp.mask = s.lp.mask ∧ (forcedOff c s).lp.fanCauses = s.lp.fanCauses ∧
    (forcedOff c s).lp.busCauses = s.lp.busCauses ∧ (forcedOff c s).lp.ejectCauses = s.lp.ejectCauses ∧
    (forcedOff c s).lp.laneOutcome = s.lp.laneOutcome ∧ (forcedOff c s).lp.laneSlot = s.lp.laneSlot ∧
    (forcedOff c s).lp.mailQueue = s.lp.mailQueue ∧ (forcedOff c s).lp.overflow = s.lp.overflow ∧
    (forcedOff c s).lp.box0 = s.lp.box0 ∧ (forcedOff c s).lp.box1 = s.lp.box1 ∧
    (forcedOff c s).lp.nextTag = s.lp.nextTag ∧ (forcedOff c s).lp.lastFinal = s.lp.lastFinal := by
  generalize h : forcedOff c s = t
  unfold forcedOff at h
  try dsimp only at h
  (repeat' split at h) <;> subst h <;> simp

@[simp] theorem stoppingFall_frame (c : ShedCause) (s : State) :
    (stoppingFall c s).now = s.now ∧ (stoppingFall c s).pending = s.pending ∧ (stoppingFall c s).pins = s.pins ∧
    (stoppingFall c s).lc = s.lc ∧ (stoppingFall c s).bi.rate = s.bi.rate ∧
    (stoppingFall c s).bi.synced = s.bi.synced ∧ (stoppingFall c s).bi.idle = s.bi.idle ∧
    (stoppingFall c s).bi.mails = s.bi.mails ∧ (stoppingFall c s).bi.tx = s.bi.tx ∧
    (stoppingFall c s).bi.txState = s.bi.txState ∧ (stoppingFall c s).bi.failRun = s.bi.failRun ∧
    (stoppingFall c s).bi.mute = s.bi.mute ∧ (stoppingFall c s).bi.timerA = s.bi.timerA ∧
    (stoppingFall c s).bi.timerB = s.bi.timerB ∧ (stoppingFall c s).bi.identityCount = s.bi.identityCount ∧
    (stoppingFall c s).bi.pulse = s.bi.pulse ∧ (stoppingFall c s).bi.stats = s.bi.stats ∧
    (stoppingFall c s).ro = s.ro ∧ (stoppingFall c s).sup = s.sup ∧ (stoppingFall c s).sm = s.sm ∧
    (stoppingFall c s).fc = s.fc ∧ (stoppingFall c s).lp.phase = s.lp.phase ∧
    (stoppingFall c s).lp.result = s.lp.result ∧ (stoppingFall c s).lp.sdo = s.lp.sdo ∧
    (stoppingFall c s).lp.lostCommands = s.lp.lostCommands ∧ (stoppingFall c s).lp.mask = s.lp.mask ∧
    (stoppingFall c s).lp.fanCauses = s.lp.fanCauses ∧ (stoppingFall c s).lp.busCauses = s.lp.busCauses ∧
    (stoppingFall c s).lp.ejectCauses = s.lp.ejectCauses ∧ (stoppingFall c s).lp.laneOutcome = s.lp.laneOutcome ∧
    (stoppingFall c s).lp.laneSlot = s.lp.laneSlot ∧ (stoppingFall c s).lp.mailQueue = s.lp.mailQueue ∧
    (stoppingFall c s).lp.overflow = s.lp.overflow ∧ (stoppingFall c s).lp.box0 = s.lp.box0 ∧
    (stoppingFall c s).lp.box1 = s.lp.box1 ∧ (stoppingFall c s).lp.nextTag = s.lp.nextTag ∧
    (stoppingFall c s).lp.lastFinal = s.lp.lastFinal := by
  generalize h : stoppingFall c s = t
  unfold stoppingFall at h
  try dsimp only at h
  subst h; simp

@[simp] theorem dropToFloor_frame (c : ShedCause) (s : State) :
    (dropToFloor c s).now = s.now ∧ (dropToFloor c s).pending = s.pending ∧ (dropToFloor c s).pins = s.pins ∧
    (dropToFloor c s).lc = s.lc ∧ (dropToFloor c s).bi.rate = s.bi.rate ∧
    (dropToFloor c s).bi.synced = s.bi.synced ∧ (dropToFloor c s).bi.idle = s.bi.idle ∧
    (dropToFloor c s).bi.mails = s.bi.mails ∧ (dropToFloor c s).bi.tx = s.bi.tx ∧
    (dropToFloor c s).bi.txState = s.bi.txState ∧ (dropToFloor c s).bi.failRun = s.bi.failRun ∧
    (dropToFloor c s).bi.mute = s.bi.mute ∧ (dropToFloor c s).bi.timerA = s.bi.timerA ∧
    (dropToFloor c s).bi.timerB = s.bi.timerB ∧ (dropToFloor c s).bi.identityCount = s.bi.identityCount ∧
    (dropToFloor c s).bi.pulse = s.bi.pulse ∧ (dropToFloor c s).bi.stats = s.bi.stats ∧ (dropToFloor c s).ro = s.ro ∧
    (dropToFloor c s).sup = s.sup ∧ (dropToFloor c s).sm = s.sm ∧ (dropToFloor c s).fc = s.fc ∧
    (dropToFloor c s).lp.phase = s.lp.phase ∧ (dropToFloor c s).lp.result = s.lp.result ∧
    (dropToFloor c s).lp.sdo = s.lp.sdo ∧ (dropToFloor c s).lp.lostCommands = s.lp.lostCommands ∧
    (dropToFloor c s).lp.mask = s.lp.mask ∧ (dropToFloor c s).lp.fanCauses = s.lp.fanCauses ∧
    (dropToFloor c s).lp.busCauses = s.lp.busCauses ∧ (dropToFloor c s).lp.ejectCauses = s.lp.ejectCauses ∧
    (dropToFloor c s).lp.laneOutcome = s.lp.laneOutcome ∧ (dropToFloor c s).lp.laneSlot = s.lp.laneSlot ∧
    (dropToFloor c s).lp.mailQueue = s.lp.mailQueue ∧ (dropToFloor c s).lp.overflow = s.lp.overflow ∧
    (dropToFloor c s).lp.box0 = s.lp.box0 ∧ (dropToFloor c s).lp.box1 = s.lp.box1 ∧
    (dropToFloor c s).lp.nextTag = s.lp.nextTag ∧ (dropToFloor c s).lp.lastFinal = s.lp.lastFinal := by
  generalize h : dropToFloor c s = t
  unfold dropToFloor at h
  try dsimp only at h
  (repeat' split at h) <;> subst h <;> simp

@[simp] theorem lossAtRest_frame (s : State) :
    (lossAtRest s).now = s.now ∧ (lossAtRest s).pending = s.pending ∧ (lossAtRest s).pins = s.pins ∧
    (lossAtRest s).lc = s.lc ∧ (lossAtRest s).bi.rate = s.bi.rate ∧ (lossAtRest s).bi.synced = s.bi.synced ∧
    (lossAtRest s).bi.idle = s.bi.idle ∧
    (lossAtRest s).bi.mails = s.bi.mails ∧ (lossAtRest s).bi.tx = s.bi.tx ∧
    (lossAtRest s).bi.txState = s.bi.txState ∧ (lossAtRest s).bi.failRun = s.bi.failRun ∧
    (lossAtRest s).bi.mute = s.bi.mute ∧ (lossAtRest s).bi.timerA = s.bi.timerA ∧
    (lossAtRest s).bi.timerB = s.bi.timerB ∧ (lossAtRest s).bi.identityCount = s.bi.identityCount ∧
    (lossAtRest s).bi.pulse = s.bi.pulse ∧ (lossAtRest s).bi.stats = s.bi.stats ∧ (lossAtRest s).ro = s.ro ∧
    (lossAtRest s).sup = s.sup ∧ (lossAtRest s).sm = s.sm ∧ (lossAtRest s).fc = s.fc ∧
    (lossAtRest s).lp.phase = s.lp.phase ∧ (lossAtRest s).lp.result = s.lp.result ∧
    (lossAtRest s).lp.sdo = s.lp.sdo ∧ (lossAtRest s).lp.lostCommands = s.lp.lostCommands ∧
    (lossAtRest s).lp.mask = s.lp.mask ∧ (lossAtRest s).lp.fanCauses = s.lp.fanCauses ∧
    (lossAtRest s).lp.busCauses = s.lp.busCauses ∧ (lossAtRest s).lp.ejectCauses = s.lp.ejectCauses ∧
    (lossAtRest s).lp.laneOutcome = s.lp.laneOutcome ∧ (lossAtRest s).lp.laneSlot = s.lp.laneSlot ∧
    (lossAtRest s).lp.mailQueue = s.lp.mailQueue ∧ (lossAtRest s).lp.overflow = s.lp.overflow ∧
    (lossAtRest s).lp.box0 = s.lp.box0 ∧ (lossAtRest s).lp.box1 = s.lp.box1 ∧
    (lossAtRest s).lp.nextTag = s.lp.nextTag ∧ (lossAtRest s).lp.lastFinal = s.lp.lastFinal := by
  generalize h : lossAtRest s = t
  unfold lossAtRest at h
  try dsimp only at h
  (repeat' split at h) <;> subst h <;> simp

@[simp] theorem endLevelRaise_frame (c d : ShedCause) (b : Bool) (s : State) :
    (endLevelRaise c d b s).now = s.now ∧ (endLevelRaise c d b s).pending = s.pending ∧
    (endLevelRaise c d b s).pins = s.pins ∧ (endLevelRaise c d b s).lc = s.lc ∧
    (endLevelRaise c d b s).bi.rate = s.bi.rate ∧ (endLevelRaise c d b s).bi.synced = s.bi.synced ∧
    (endLevelRaise c d b s).bi.idle = s.bi.idle ∧
    (endLevelRaise c d b s).bi.mails = s.bi.mails ∧ (endLevelRaise c d b s).bi.tx = s.bi.tx ∧
    (endLevelRaise c d b s).bi.txState = s.bi.txState ∧ (endLevelRaise c d b s).bi.failRun = s.bi.failRun ∧
    (endLevelRaise c d b s).bi.mute = s.bi.mute ∧ (endLevelRaise c d b s).bi.timerA = s.bi.timerA ∧
    (endLevelRaise c d b s).bi.timerB = s.bi.timerB ∧ (endLevelRaise c d b s).bi.identityCount = s.bi.identityCount ∧
    (endLevelRaise c d b s).bi.pulse = s.bi.pulse ∧ (endLevelRaise c d b s).bi.stats = s.bi.stats ∧
    (endLevelRaise c d b s).ro = s.ro ∧ (endLevelRaise c d b s).sup = s.sup ∧ (endLevelRaise c d b s).sm = s.sm ∧
    (endLevelRaise c d b s).fc = s.fc ∧ (endLevelRaise c d b s).lp.phase = s.lp.phase ∧
    (endLevelRaise c d b s).lp.result = s.lp.result ∧ (endLevelRaise c d b s).lp.sdo = s.lp.sdo ∧
    (endLevelRaise c d b s).lp.lostCommands = s.lp.lostCommands ∧ (endLevelRaise c d b s).lp.mask = s.lp.mask ∧
    (endLevelRaise c d b s).lp.fanCauses = s.lp.fanCauses ∧ (endLevelRaise c d b s).lp.busCauses = s.lp.busCauses ∧
    (endLevelRaise c d b s).lp.ejectCauses = s.lp.ejectCauses ∧
    (endLevelRaise c d b s).lp.laneOutcome = s.lp.laneOutcome ∧ (endLevelRaise c d b s).lp.laneSlot = s.lp.laneSlot ∧
    (endLevelRaise c d b s).lp.mailQueue = s.lp.mailQueue ∧ (endLevelRaise c d b s).lp.overflow = s.lp.overflow ∧
    (endLevelRaise c d b s).lp.box0 = s.lp.box0 ∧ (endLevelRaise c d b s).lp.box1 = s.lp.box1 ∧
    (endLevelRaise c d b s).lp.nextTag = s.lp.nextTag ∧ (endLevelRaise c d b s).lp.lastFinal = s.lp.lastFinal := by
  generalize h : endLevelRaise c d b s = t
  unfold endLevelRaise at h
  try dsimp only at h
  (repeat' split at h) <;> subst h <;> simp

@[simp] theorem failAmountRaise_frame (s : State) :
    (failAmountRaise s).now = s.now ∧ (failAmountRaise s).pending = s.pending ∧ (failAmountRaise s).pins = s.pins ∧
    (failAmountRaise s).lc = s.lc ∧ (failAmountRaise s).bi.rate = s.bi.rate ∧
    (failAmountRaise s).bi.synced = s.bi.synced ∧
    (failAmountRaise s).bi.idle = s.bi.idle ∧ (failAmountRaise s).bi.mails = s.bi.mails ∧
    (failAmountRaise s).bi.tx = s.bi.tx ∧ (failAmountRaise s).bi.txState = s.bi.txState ∧
    (failAmountRaise s).bi.failRun = s.bi.failRun ∧ (failAmountRaise s).bi.mute = s.bi.mute ∧
    (failAmountRaise s).bi.timerA = s.bi.timerA ∧ (failAmountRaise s).bi.timerB = s.bi.timerB ∧
    (failAmountRaise s).bi.identityCount = s.bi.identityCount ∧ (failAmountRaise s).bi.pulse = s.bi.pulse ∧
    (failAmountRaise s).bi.stats = s.bi.stats ∧ (failAmountRaise s).ro = s.ro ∧ (failAmountRaise s).sup = s.sup ∧
    (failAmountRaise s).sm = s.sm ∧ (failAmountRaise s).fc = s.fc ∧ (failAmountRaise s).lp.phase = s.lp.phase ∧
    (failAmountRaise s).lp.result = s.lp.result ∧ (failAmountRaise s).lp.sdo = s.lp.sdo ∧
    (failAmountRaise s).lp.lostCommands = s.lp.lostCommands ∧ (failAmountRaise s).lp.mask = s.lp.mask ∧
    (failAmountRaise s).lp.fanCauses = s.lp.fanCauses ∧ (failAmountRaise s).lp.busCauses = s.lp.busCauses ∧
    (failAmountRaise s).lp.ejectCauses = s.lp.ejectCauses ∧ (failAmountRaise s).lp.laneOutcome = s.lp.laneOutcome ∧
    (failAmountRaise s).lp.laneSlot = s.lp.laneSlot ∧ (failAmountRaise s).lp.mailQueue = s.lp.mailQueue ∧
    (failAmountRaise s).lp.overflow = s.lp.overflow ∧ (failAmountRaise s).lp.box0 = s.lp.box0 ∧
    (failAmountRaise s).lp.box1 = s.lp.box1 ∧ (failAmountRaise s).lp.nextTag = s.lp.nextTag ∧
    (failAmountRaise s).lp.lastFinal = s.lp.lastFinal := by
  generalize h : failAmountRaise s = t
  unfold failAmountRaise at h
  try dsimp only at h
  (repeat' split at h) <;> subst h <;> simp

@[simp] theorem lookRaise_frame (s : State) :
    (lookRaise s).now = s.now ∧ (lookRaise s).pending = s.pending ∧ (lookRaise s).pins = s.pins ∧
    (lookRaise s).lc = s.lc ∧ (lookRaise s).bi.rate = s.bi.rate ∧ (lookRaise s).bi.synced = s.bi.synced ∧
    (lookRaise s).bi.idle = s.bi.idle ∧
    (lookRaise s).bi.mails = s.bi.mails ∧ (lookRaise s).bi.tx = s.bi.tx ∧ (lookRaise s).bi.txState = s.bi.txState ∧
    (lookRaise s).bi.failRun = s.bi.failRun ∧ (lookRaise s).bi.mute = s.bi.mute ∧
    (lookRaise s).bi.timerA = s.bi.timerA ∧ (lookRaise s).bi.timerB = s.bi.timerB ∧
    (lookRaise s).bi.identityCount = s.bi.identityCount ∧ (lookRaise s).bi.pulse = s.bi.pulse ∧
    (lookRaise s).bi.stats = s.bi.stats ∧ (lookRaise s).ro = s.ro ∧ (lookRaise s).sup = s.sup ∧
    (lookRaise s).sm = s.sm ∧ (lookRaise s).fc = s.fc ∧ (lookRaise s).lp.phase = s.lp.phase ∧
    (lookRaise s).lp.result = s.lp.result ∧ (lookRaise s).lp.sdo = s.lp.sdo ∧
    (lookRaise s).lp.lostCommands = s.lp.lostCommands ∧ (lookRaise s).lp.mask = s.lp.mask ∧
    (lookRaise s).lp.fanCauses = s.lp.fanCauses ∧ (lookRaise s).lp.busCauses = s.lp.busCauses ∧
    (lookRaise s).lp.ejectCauses = s.lp.ejectCauses ∧ (lookRaise s).lp.laneOutcome = s.lp.laneOutcome ∧
    (lookRaise s).lp.laneSlot = s.lp.laneSlot ∧ (lookRaise s).lp.mailQueue = s.lp.mailQueue ∧
    (lookRaise s).lp.overflow = s.lp.overflow ∧ (lookRaise s).lp.box0 = s.lp.box0 ∧
    (lookRaise s).lp.box1 = s.lp.box1 ∧ (lookRaise s).lp.nextTag = s.lp.nextTag ∧
    (lookRaise s).lp.lastFinal = s.lp.lastFinal := by
  generalize h : lookRaise s = t
  unfold lookRaise at h
  try dsimp only at h
  (repeat' split at h) <;> subst h <;> simp

@[simp] theorem shedAct_frame (c : ShedCause) (s : State) :
    (shedAct c s).now = s.now ∧ (shedAct c s).pending = s.pending ∧ (shedAct c s).pins = s.pins ∧
    (shedAct c s).lc = s.lc ∧ (shedAct c s).bi.rate = s.bi.rate ∧ (shedAct c s).bi.synced = s.bi.synced ∧
    (shedAct c s).bi.idle = s.bi.idle ∧
    (shedAct c s).bi.mails = s.bi.mails ∧ (shedAct c s).bi.tx = s.bi.tx ∧ (shedAct c s).bi.txState = s.bi.txState ∧
    (shedAct c s).bi.failRun = s.bi.failRun ∧ (shedAct c s).bi.mute = s.bi.mute ∧
    (shedAct c s).bi.timerA = s.bi.timerA ∧ (shedAct c s).bi.timerB = s.bi.timerB ∧
    (shedAct c s).bi.identityCount = s.bi.identityCount ∧ (shedAct c s).bi.pulse = s.bi.pulse ∧
    (shedAct c s).bi.stats = s.bi.stats ∧ (shedAct c s).ro = s.ro ∧ (shedAct c s).sup = s.sup ∧
    (shedAct c s).sm = s.sm ∧ (shedAct c s).fc = s.fc ∧ (shedAct c s).lp.phase = s.lp.phase ∧
    (shedAct c s).lp.result = s.lp.result ∧ (shedAct c s).lp.sdo = s.lp.sdo ∧
    (shedAct c s).lp.lostCommands = s.lp.lostCommands ∧ (shedAct c s).lp.mask = s.lp.mask ∧
    (shedAct c s).lp.fanCauses = s.lp.fanCauses ∧ (shedAct c s).lp.busCauses = s.lp.busCauses ∧
    (shedAct c s).lp.ejectCauses = s.lp.ejectCauses ∧ (shedAct c s).lp.laneOutcome = s.lp.laneOutcome ∧
    (shedAct c s).lp.laneSlot = s.lp.laneSlot ∧ (shedAct c s).lp.mailQueue = s.lp.mailQueue ∧
    (shedAct c s).lp.overflow = s.lp.overflow ∧ (shedAct c s).lp.box0 = s.lp.box0 ∧
    (shedAct c s).lp.box1 = s.lp.box1 ∧ (shedAct c s).lp.nextTag = s.lp.nextTag ∧
    (shedAct c s).lp.lastFinal = s.lp.lastFinal := by
  generalize h : shedAct c s = t
  unfold shedAct at h
  try dsimp only at h
  (repeat' split at h) <;> subst h <;> simp

@[simp] theorem stalePath_frame (s : State) :
    (stalePath s).now = s.now ∧ (stalePath s).pending = s.pending ∧ (stalePath s).pins = s.pins ∧
    (stalePath s).lc = s.lc ∧ (stalePath s).bi.rate = s.bi.rate ∧ (stalePath s).bi.synced = s.bi.synced ∧
    (stalePath s).bi.idle = s.bi.idle ∧
    (stalePath s).bi.mails = s.bi.mails ∧ (stalePath s).bi.tx = s.bi.tx ∧ (stalePath s).bi.txState = s.bi.txState ∧
    (stalePath s).bi.failRun = s.bi.failRun ∧ (stalePath s).bi.mute = s.bi.mute ∧
    (stalePath s).bi.timerA = s.bi.timerA ∧ (stalePath s).bi.timerB = s.bi.timerB ∧
    (stalePath s).bi.identityCount = s.bi.identityCount ∧ (stalePath s).bi.pulse = s.bi.pulse ∧
    (stalePath s).bi.stats = s.bi.stats ∧ (stalePath s).ro = s.ro ∧ (stalePath s).sup = s.sup ∧
    (stalePath s).sm = s.sm ∧ (stalePath s).fc = s.fc ∧ (stalePath s).lp.phase = s.lp.phase ∧
    (stalePath s).lp.result = s.lp.result ∧ (stalePath s).lp.sdo = s.lp.sdo ∧
    (stalePath s).lp.lostCommands = s.lp.lostCommands ∧ (stalePath s).lp.mask = s.lp.mask ∧
    (stalePath s).lp.fanCauses = s.lp.fanCauses ∧ (stalePath s).lp.busCauses = s.lp.busCauses ∧
    (stalePath s).lp.ejectCauses = s.lp.ejectCauses ∧ (stalePath s).lp.laneOutcome = s.lp.laneOutcome ∧
    (stalePath s).lp.laneSlot = s.lp.laneSlot ∧ (stalePath s).lp.mailQueue = s.lp.mailQueue ∧
    (stalePath s).lp.overflow = s.lp.overflow ∧ (stalePath s).lp.box0 = s.lp.box0 ∧
    (stalePath s).lp.box1 = s.lp.box1 ∧ (stalePath s).lp.nextTag = s.lp.nextTag ∧
    (stalePath s).lp.lastFinal = s.lp.lastFinal := by
  generalize h : stalePath s = t
  unfold stalePath at h
  try dsimp only at h
  (repeat' split at h) <;> subst h <;> simp

@[simp] theorem staleCleared_frame (s : State) :
    (staleCleared s).now = s.now ∧ (staleCleared s).pending = s.pending ∧ (staleCleared s).pins = s.pins ∧
    (staleCleared s).lc = s.lc ∧ (staleCleared s).bi.rate = s.bi.rate ∧ (staleCleared s).bi.synced = s.bi.synced ∧
    (staleCleared s).bi.idle = s.bi.idle ∧
    (staleCleared s).bi.mails = s.bi.mails ∧ (staleCleared s).bi.tx = s.bi.tx ∧
    (staleCleared s).bi.txState = s.bi.txState ∧ (staleCleared s).bi.failRun = s.bi.failRun ∧
    (staleCleared s).bi.mute = s.bi.mute ∧ (staleCleared s).bi.timerA = s.bi.timerA ∧
    (staleCleared s).bi.timerB = s.bi.timerB ∧ (staleCleared s).bi.identityCount = s.bi.identityCount ∧
    (staleCleared s).bi.pulse = s.bi.pulse ∧ (staleCleared s).bi.stats = s.bi.stats ∧ (staleCleared s).ro = s.ro ∧
    (staleCleared s).sup = s.sup ∧ (staleCleared s).sm = s.sm ∧ (staleCleared s).fc = s.fc ∧
    (staleCleared s).lp.phase = s.lp.phase ∧ (staleCleared s).lp.result = s.lp.result ∧
    (staleCleared s).lp.sdo = s.lp.sdo ∧ (staleCleared s).lp.lostCommands = s.lp.lostCommands ∧
    (staleCleared s).lp.mask = s.lp.mask ∧ (staleCleared s).lp.fanCauses = s.lp.fanCauses ∧
    (staleCleared s).lp.busCauses = s.lp.busCauses ∧ (staleCleared s).lp.ejectCauses = s.lp.ejectCauses ∧
    (staleCleared s).lp.laneOutcome = s.lp.laneOutcome ∧ (staleCleared s).lp.laneSlot = s.lp.laneSlot ∧
    (staleCleared s).lp.mailQueue = s.lp.mailQueue ∧ (staleCleared s).lp.overflow = s.lp.overflow ∧
    (staleCleared s).lp.box0 = s.lp.box0 ∧ (staleCleared s).lp.box1 = s.lp.box1 ∧
    (staleCleared s).lp.nextTag = s.lp.nextTag ∧ (staleCleared s).lp.lastFinal = s.lp.lastFinal := by
  generalize h : staleCleared s = t
  unfold staleCleared at h
  try dsimp only at h
  (repeat' split at h) <;> subst h <;> simp

end Sys2Proof.Machine
end

