-- ==== Sys2Proof/Laws/Arbiter.lean ====
section
/-! SUPPORT. What the uplink's arbiter, the entries to ENABLING and ON and the notices leave unchanged. -/

namespace Sys2Proof.Machine

@[simp] theorem rewriteLanes_frame (s : State) :
    (rewriteLanes s).now = s.now ∧ (rewriteLanes s).pending = s.pending ∧ (rewriteLanes s).pins = s.pins ∧
    (rewriteLanes s).lc = s.lc ∧ (rewriteLanes s).bi.rate = s.bi.rate ∧ (rewriteLanes s).bi.synced = s.bi.synced ∧
    (rewriteLanes s).bi.idle = s.bi.idle ∧
    (rewriteLanes s).bi.mails = s.bi.mails ∧ (rewriteLanes s).bi.tx = s.bi.tx ∧
    (rewriteLanes s).bi.txState = s.bi.txState ∧ (rewriteLanes s).bi.failRun = s.bi.failRun ∧
    (rewriteLanes s).bi.mute = s.bi.mute ∧ (rewriteLanes s).bi.timerA = s.bi.timerA ∧
    (rewriteLanes s).bi.timerB = s.bi.timerB ∧ (rewriteLanes s).bi.identityCount = s.bi.identityCount ∧
    (rewriteLanes s).bi.pulse = s.bi.pulse ∧ (rewriteLanes s).bi.stats = s.bi.stats ∧ (rewriteLanes s).ro = s.ro ∧
    (rewriteLanes s).sup = s.sup ∧ (rewriteLanes s).sm = s.sm ∧ (rewriteLanes s).fc = s.fc ∧
    (rewriteLanes s).lp.phase = s.lp.phase ∧ (rewriteLanes s).lp.result = s.lp.result ∧
    (rewriteLanes s).lp.sdo = s.lp.sdo ∧ (rewriteLanes s).lp.lostCommands = s.lp.lostCommands ∧
    (rewriteLanes s).lp.mask = s.lp.mask ∧ (rewriteLanes s).lp.fanCauses = s.lp.fanCauses ∧
    (rewriteLanes s).lp.busCauses = s.lp.busCauses ∧ (rewriteLanes s).lp.ejectCauses = s.lp.ejectCauses ∧
    (rewriteLanes s).lp.laneOutcome = s.lp.laneOutcome ∧ (rewriteLanes s).lp.laneSlot = s.lp.laneSlot ∧
    (rewriteLanes s).lp.mailQueue = s.lp.mailQueue ∧ (rewriteLanes s).lp.overflow = s.lp.overflow ∧
    (rewriteLanes s).lp.box0 = s.lp.box0 ∧ (rewriteLanes s).lp.box1 = s.lp.box1 ∧
    (rewriteLanes s).lp.nextTag = s.lp.nextTag ∧ (rewriteLanes s).lp.lastFinal = s.lp.lastFinal := by
  generalize h : rewriteLanes s = t
  unfold rewriteLanes at h
  try dsimp only at h
  (repeat' split at h) <;> subst h <;> simp

@[simp] theorem serve_frame (r : Request) (q : List Request) (s : State) :
    (serve r q s).now = s.now ∧ (serve r q s).pending = s.pending ∧ (serve r q s).pins = s.pins ∧
    (serve r q s).lc = s.lc ∧ (serve r q s).bi.rate = s.bi.rate ∧ (serve r q s).bi.synced = s.bi.synced ∧
    (serve r q s).bi.idle = s.bi.idle ∧
    (serve r q s).bi.mails = s.bi.mails ∧ (serve r q s).bi.tx = s.bi.tx ∧ (serve r q s).bi.txState = s.bi.txState ∧
    (serve r q s).bi.failRun = s.bi.failRun ∧ (serve r q s).bi.mute = s.bi.mute ∧
    (serve r q s).bi.timerA = s.bi.timerA ∧ (serve r q s).bi.timerB = s.bi.timerB ∧
    (serve r q s).bi.identityCount = s.bi.identityCount ∧ (serve r q s).bi.pulse = s.bi.pulse ∧
    (serve r q s).bi.stats = s.bi.stats ∧ (serve r q s).ro = s.ro ∧ (serve r q s).sup = s.sup ∧
    (serve r q s).sm = s.sm ∧ (serve r q s).fc = s.fc ∧ (serve r q s).lp.phase = s.lp.phase ∧
    (serve r q s).lp.result = s.lp.result ∧ (serve r q s).lp.sdo = s.lp.sdo ∧
    (serve r q s).lp.lostCommands = s.lp.lostCommands ∧ (serve r q s).lp.mask = s.lp.mask ∧
    (serve r q s).lp.fanCauses = s.lp.fanCauses ∧ (serve r q s).lp.busCauses = s.lp.busCauses ∧
    (serve r q s).lp.ejectCauses = s.lp.ejectCauses ∧ (serve r q s).lp.laneOutcome = s.lp.laneOutcome ∧
    (serve r q s).lp.laneSlot = s.lp.laneSlot ∧ (serve r q s).lp.mailQueue = s.lp.mailQueue ∧
    (serve r q s).lp.overflow = s.lp.overflow ∧ (serve r q s).lp.box0 = s.lp.box0 ∧
    (serve r q s).lp.box1 = s.lp.box1 ∧ (serve r q s).lp.nextTag = s.lp.nextTag ∧
    (serve r q s).lp.lastFinal = s.lp.lastFinal := by
  generalize h : serve r q s = t
  unfold serve at h
  try dsimp only at h
  subst h; simp

@[simp] theorem reservationFails_frame (s : State) :
    (reservationFails s).now = s.now ∧ (reservationFails s).pending = s.pending ∧
    (reservationFails s).pins = s.pins ∧ (reservationFails s).lc = s.lc ∧ (reservationFails s).bi.rate = s.bi.rate ∧
    (reservationFails s).bi.synced = s.bi.synced ∧
    (reservationFails s).bi.idle = s.bi.idle ∧ (reservationFails s).bi.mails = s.bi.mails ∧
    (reservationFails s).bi.tx = s.bi.tx ∧ (reservationFails s).bi.txState = s.bi.txState ∧
    (reservationFails s).bi.failRun = s.bi.failRun ∧ (reservationFails s).bi.mute = s.bi.mute ∧
    (reservationFails s).bi.timerA = s.bi.timerA ∧ (reservationFails s).bi.timerB = s.bi.timerB ∧
    (reservationFails s).bi.identityCount = s.bi.identityCount ∧ (reservationFails s).bi.pulse = s.bi.pulse ∧
    (reservationFails s).bi.stats = s.bi.stats ∧ (reservationFails s).ro = s.ro ∧ (reservationFails s).sup = s.sup ∧
    (reservationFails s).sm = s.sm ∧ (reservationFails s).fc = s.fc ∧ (reservationFails s).lp.phase = s.lp.phase ∧
    (reservationFails s).lp.result = s.lp.result ∧ (reservationFails s).lp.sdo = s.lp.sdo ∧
    (reservationFails s).lp.lostCommands = s.lp.lostCommands ∧ (reservationFails s).lp.mask = s.lp.mask ∧
    (reservationFails s).lp.fanCauses = s.lp.fanCauses ∧ (reservationFails s).lp.busCauses = s.lp.busCauses ∧
    (reservationFails s).lp.ejectCauses = s.lp.ejectCauses ∧ (reservationFails s).lp.laneOutcome = s.lp.laneOutcome ∧
    (reservationFails s).lp.laneSlot = s.lp.laneSlot ∧ (reservationFails s).lp.mailQueue = s.lp.mailQueue ∧
    (reservationFails s).lp.overflow = s.lp.overflow ∧ (reservationFails s).lp.box0 = s.lp.box0 ∧
    (reservationFails s).lp.box1 = s.lp.box1 ∧ (reservationFails s).lp.nextTag = s.lp.nextTag ∧
    (reservationFails s).lp.lastFinal = s.lp.lastFinal := by
  generalize h : reservationFails s = t
  unfold reservationFails at h
  try dsimp only at h
  (repeat' split at h) <;> subst h <;> simp

@[simp] theorem arbiterLoop_frame (n : Nat) (s : State) :
    (arbiterLoop n s).now = s.now ∧ (arbiterLoop n s).pending = s.pending ∧ (arbiterLoop n s).pins = s.pins ∧
    (arbiterLoop n s).lc = s.lc ∧ (arbiterLoop n s).bi.rate = s.bi.rate ∧
    (arbiterLoop n s).bi.synced = s.bi.synced ∧ (arbiterLoop n s).bi.idle = s.bi.idle ∧
    (arbiterLoop n s).bi.mails = s.bi.mails ∧ (arbiterLoop n s).bi.tx = s.bi.tx ∧
    (arbiterLoop n s).bi.txState = s.bi.txState ∧ (arbiterLoop n s).bi.failRun = s.bi.failRun ∧
    (arbiterLoop n s).bi.mute = s.bi.mute ∧ (arbiterLoop n s).bi.timerA = s.bi.timerA ∧
    (arbiterLoop n s).bi.timerB = s.bi.timerB ∧ (arbiterLoop n s).bi.identityCount = s.bi.identityCount ∧
    (arbiterLoop n s).bi.pulse = s.bi.pulse ∧ (arbiterLoop n s).bi.stats = s.bi.stats ∧ (arbiterLoop n s).ro = s.ro ∧
    (arbiterLoop n s).sup = s.sup ∧ (arbiterLoop n s).sm = s.sm ∧ (arbiterLoop n s).fc = s.fc ∧
    (arbiterLoop n s).lp.phase = s.lp.phase ∧ (arbiterLoop n s).lp.result = s.lp.result ∧
    (arbiterLoop n s).lp.sdo = s.lp.sdo ∧ (arbiterLoop n s).lp.lostCommands = s.lp.lostCommands ∧
    (arbiterLoop n s).lp.mask = s.lp.mask ∧ (arbiterLoop n s).lp.fanCauses = s.lp.fanCauses ∧
    (arbiterLoop n s).lp.busCauses = s.lp.busCauses ∧ (arbiterLoop n s).lp.ejectCauses = s.lp.ejectCauses ∧
    (arbiterLoop n s).lp.laneOutcome = s.lp.laneOutcome ∧ (arbiterLoop n s).lp.laneSlot = s.lp.laneSlot ∧
    (arbiterLoop n s).lp.mailQueue = s.lp.mailQueue ∧ (arbiterLoop n s).lp.overflow = s.lp.overflow ∧
    (arbiterLoop n s).lp.box0 = s.lp.box0 ∧ (arbiterLoop n s).lp.box1 = s.lp.box1 ∧
    (arbiterLoop n s).lp.nextTag = s.lp.nextTag ∧ (arbiterLoop n s).lp.lastFinal = s.lp.lastFinal := by
  induction n generalizing s with
  | zero => simp [arbiterLoop]
  | succ n ih => unfold arbiterLoop; dsimp only; (repeat' split) <;> simp [ih]

@[simp] theorem arbiter_frame (s : State) :
    (arbiter s).now = s.now ∧ (arbiter s).pending = s.pending ∧ (arbiter s).pins = s.pins ∧ (arbiter s).lc = s.lc ∧
    (arbiter s).bi.rate = s.bi.rate ∧ (arbiter s).bi.synced = s.bi.synced ∧ (arbiter s).bi.idle = s.bi.idle ∧
    (arbiter s).bi.mails = s.bi.mails ∧
    (arbiter s).bi.tx = s.bi.tx ∧ (arbiter s).bi.txState = s.bi.txState ∧ (arbiter s).bi.failRun = s.bi.failRun ∧
    (arbiter s).bi.mute = s.bi.mute ∧ (arbiter s).bi.timerA = s.bi.timerA ∧ (arbiter s).bi.timerB = s.bi.timerB ∧
    (arbiter s).bi.identityCount = s.bi.identityCount ∧ (arbiter s).bi.pulse = s.bi.pulse ∧
    (arbiter s).bi.stats = s.bi.stats ∧ (arbiter s).ro = s.ro ∧ (arbiter s).sup = s.sup ∧ (arbiter s).sm = s.sm ∧
    (arbiter s).fc = s.fc ∧ (arbiter s).lp.phase = s.lp.phase ∧ (arbiter s).lp.result = s.lp.result ∧
    (arbiter s).lp.sdo = s.lp.sdo ∧ (arbiter s).lp.lostCommands = s.lp.lostCommands ∧ (arbiter s).lp.mask = s.lp.mask ∧
    (arbiter s).lp.fanCauses = s.lp.fanCauses ∧ (arbiter s).lp.busCauses = s.lp.busCauses ∧
    (arbiter s).lp.ejectCauses = s.lp.ejectCauses ∧ (arbiter s).lp.laneOutcome = s.lp.laneOutcome ∧
    (arbiter s).lp.laneSlot = s.lp.laneSlot ∧ (arbiter s).lp.mailQueue = s.lp.mailQueue ∧
    (arbiter s).lp.overflow = s.lp.overflow ∧ (arbiter s).lp.box0 = s.lp.box0 ∧ (arbiter s).lp.box1 = s.lp.box1 ∧
    (arbiter s).lp.nextTag = s.lp.nextTag ∧ (arbiter s).lp.lastFinal = s.lp.lastFinal := by
  generalize h : arbiter s = t
  unfold arbiter at h
  try dsimp only at h
  subst h; simp

@[simp] theorem roundLoop_frame (n : Nat) (s : State) :
    (roundLoop n s).now = s.now ∧ (roundLoop n s).pending = s.pending ∧ (roundLoop n s).pins = s.pins ∧
    (roundLoop n s).lc = s.lc ∧ (roundLoop n s).bi.rate = s.bi.rate ∧ (roundLoop n s).bi.synced = s.bi.synced ∧
    (roundLoop n s).bi.idle = s.bi.idle ∧
    (roundLoop n s).bi.mails = s.bi.mails ∧ (roundLoop n s).bi.tx = s.bi.tx ∧
    (roundLoop n s).bi.txState = s.bi.txState ∧ (roundLoop n s).bi.failRun = s.bi.failRun ∧
    (roundLoop n s).bi.mute = s.bi.mute ∧ (roundLoop n s).bi.timerA = s.bi.timerA ∧
    (roundLoop n s).bi.timerB = s.bi.timerB ∧ (roundLoop n s).bi.identityCount = s.bi.identityCount ∧
    (roundLoop n s).bi.pulse = s.bi.pulse ∧ (roundLoop n s).bi.stats = s.bi.stats ∧ (roundLoop n s).ro = s.ro ∧
    (roundLoop n s).sup = s.sup ∧ (roundLoop n s).sm = s.sm ∧ (roundLoop n s).fc = s.fc ∧
    (roundLoop n s).lp.phase = s.lp.phase ∧ (roundLoop n s).lp.result = s.lp.result ∧
    (roundLoop n s).lp.sdo = s.lp.sdo ∧ (roundLoop n s).lp.lostCommands = s.lp.lostCommands ∧
    (roundLoop n s).lp.mask = s.lp.mask ∧ (roundLoop n s).lp.fanCauses = s.lp.fanCauses ∧
    (roundLoop n s).lp.busCauses = s.lp.busCauses ∧ (roundLoop n s).lp.ejectCauses = s.lp.ejectCauses ∧
    (roundLoop n s).lp.laneOutcome = s.lp.laneOutcome ∧ (roundLoop n s).lp.laneSlot = s.lp.laneSlot ∧
    (roundLoop n s).lp.mailQueue = s.lp.mailQueue ∧ (roundLoop n s).lp.overflow = s.lp.overflow ∧
    (roundLoop n s).lp.box0 = s.lp.box0 ∧ (roundLoop n s).lp.box1 = s.lp.box1 ∧
    (roundLoop n s).lp.nextTag = s.lp.nextTag ∧ (roundLoop n s).lp.lastFinal = s.lp.lastFinal := by
  induction n generalizing s with
  | zero => simp [roundLoop]
  | succ n ih => unfold roundLoop; dsimp only; (repeat' split) <;> simp [ih]

@[simp] theorem arbiterRound_frame (s : State) :
    (arbiterRound s).now = s.now ∧ (arbiterRound s).pending = s.pending ∧ (arbiterRound s).pins = s.pins ∧
    (arbiterRound s).lc = s.lc ∧ (arbiterRound s).bi.rate = s.bi.rate ∧ (arbiterRound s).bi.synced = s.bi.synced ∧
    (arbiterRound s).bi.idle = s.bi.idle ∧
    (arbiterRound s).bi.mails = s.bi.mails ∧ (arbiterRound s).bi.tx = s.bi.tx ∧
    (arbiterRound s).bi.txState = s.bi.txState ∧ (arbiterRound s).bi.failRun = s.bi.failRun ∧
    (arbiterRound s).bi.mute = s.bi.mute ∧ (arbiterRound s).bi.timerA = s.bi.timerA ∧
    (arbiterRound s).bi.timerB = s.bi.timerB ∧ (arbiterRound s).bi.identityCount = s.bi.identityCount ∧
    (arbiterRound s).bi.pulse = s.bi.pulse ∧ (arbiterRound s).bi.stats = s.bi.stats ∧ (arbiterRound s).ro = s.ro ∧
    (arbiterRound s).sup = s.sup ∧ (arbiterRound s).sm = s.sm ∧ (arbiterRound s).fc = s.fc ∧
    (arbiterRound s).lp.phase = s.lp.phase ∧ (arbiterRound s).lp.result = s.lp.result ∧
    (arbiterRound s).lp.sdo = s.lp.sdo ∧ (arbiterRound s).lp.lostCommands = s.lp.lostCommands ∧
    (arbiterRound s).lp.mask = s.lp.mask ∧ (arbiterRound s).lp.fanCauses = s.lp.fanCauses ∧
    (arbiterRound s).lp.busCauses = s.lp.busCauses ∧ (arbiterRound s).lp.ejectCauses = s.lp.ejectCauses ∧
    (arbiterRound s).lp.laneOutcome = s.lp.laneOutcome ∧ (arbiterRound s).lp.laneSlot = s.lp.laneSlot ∧
    (arbiterRound s).lp.mailQueue = s.lp.mailQueue ∧ (arbiterRound s).lp.overflow = s.lp.overflow ∧
    (arbiterRound s).lp.box0 = s.lp.box0 ∧ (arbiterRound s).lp.box1 = s.lp.box1 ∧
    (arbiterRound s).lp.nextTag = s.lp.nextTag ∧ (arbiterRound s).lp.lastFinal = s.lp.lastFinal := by
  generalize h : arbiterRound s = t
  unfold arbiterRound at h
  try dsimp only at h
  (repeat' split at h) <;> subst h <;> simp

@[simp] theorem reservationEnds_frame (s : State) :
    (reservationEnds s).now = s.now ∧ (reservationEnds s).pending = s.pending ∧ (reservationEnds s).pins = s.pins ∧
    (reservationEnds s).lc = s.lc ∧ (reservationEnds s).bi.rate = s.bi.rate ∧
    (reservationEnds s).bi.synced = s.bi.synced ∧
    (reservationEnds s).bi.idle = s.bi.idle ∧ (reservationEnds s).bi.mails = s.bi.mails ∧
    (reservationEnds s).bi.tx = s.bi.tx ∧ (reservationEnds s).bi.txState = s.bi.txState ∧
    (reservationEnds s).bi.failRun = s.bi.failRun ∧ (reservationEnds s).bi.mute = s.bi.mute ∧
    (reservationEnds s).bi.timerA = s.bi.timerA ∧ (reservationEnds s).bi.timerB = s.bi.timerB ∧
    (reservationEnds s).bi.identityCount = s.bi.identityCount ∧ (reservationEnds s).bi.pulse = s.bi.pulse ∧
    (reservationEnds s).bi.stats = s.bi.stats ∧ (reservationEnds s).ro = s.ro ∧ (reservationEnds s).sup = s.sup ∧
    (reservationEnds s).sm = s.sm ∧ (reservationEnds s).fc = s.fc ∧ (reservationEnds s).lp.phase = s.lp.phase ∧
    (reservationEnds s).lp.result = s.lp.result ∧ (reservationEnds s).lp.sdo = s.lp.sdo ∧
    (reservationEnds s).lp.lostCommands = s.lp.lostCommands ∧ (reservationEnds s).lp.mask = s.lp.mask ∧
    (reservationEnds s).lp.fanCauses = s.lp.fanCauses ∧ (reservationEnds s).lp.busCauses = s.lp.busCauses ∧
    (reservationEnds s).lp.ejectCauses = s.lp.ejectCauses ∧ (reservationEnds s).lp.laneOutcome = s.lp.laneOutcome ∧
    (reservationEnds s).lp.laneSlot = s.lp.laneSlot ∧ (reservationEnds s).lp.mailQueue = s.lp.mailQueue ∧
    (reservationEnds s).lp.overflow = s.lp.overflow ∧ (reservationEnds s).lp.box0 = s.lp.box0 ∧
    (reservationEnds s).lp.box1 = s.lp.box1 ∧ (reservationEnds s).lp.nextTag = s.lp.nextTag ∧
    (reservationEnds s).lp.lastFinal = s.lp.lastFinal := by
  generalize h : reservationEnds s = t
  unfold reservationEnds at h
  try dsimp only at h
  (repeat' split at h) <;> subst h <;> simp

@[simp] theorem enterOn_frame (s : State) :
    (enterOn s).now = s.now ∧ (enterOn s).pending = s.pending ∧ (enterOn s).pins = s.pins ∧ (enterOn s).lc = s.lc ∧
    (enterOn s).bi.rate = s.bi.rate ∧ (enterOn s).bi.synced = s.bi.synced ∧ (enterOn s).bi.idle = s.bi.idle ∧
    (enterOn s).bi.mails = s.bi.mails ∧
    (enterOn s).bi.tx = s.bi.tx ∧ (enterOn s).bi.txState = s.bi.txState ∧ (enterOn s).bi.failRun = s.bi.failRun ∧
    (enterOn s).bi.mute = s.bi.mute ∧ (enterOn s).bi.timerA = s.bi.timerA ∧ (enterOn s).bi.timerB = s.bi.timerB ∧
    (enterOn s).bi.identityCount = s.bi.identityCount ∧ (enterOn s).bi.pulse = s.bi.pulse ∧
    (enterOn s).bi.stats = s.bi.stats ∧ (enterOn s).ro = s.ro ∧ (enterOn s).sup = s.sup ∧ (enterOn s).sm = s.sm ∧
    (enterOn s).fc = s.fc ∧ (enterOn s).lp.phase = s.lp.phase ∧ (enterOn s).lp.result = s.lp.result ∧
    (enterOn s).lp.sdo = s.lp.sdo ∧ (enterOn s).lp.lostCommands = s.lp.lostCommands ∧ (enterOn s).lp.mask = s.lp.mask ∧
    (enterOn s).lp.fanCauses = s.lp.fanCauses ∧ (enterOn s).lp.busCauses = s.lp.busCauses ∧
    (enterOn s).lp.ejectCauses = s.lp.ejectCauses ∧ (enterOn s).lp.laneOutcome = s.lp.laneOutcome ∧
    (enterOn s).lp.laneSlot = s.lp.laneSlot ∧ (enterOn s).lp.mailQueue = s.lp.mailQueue ∧
    (enterOn s).lp.overflow = s.lp.overflow ∧ (enterOn s).lp.box0 = s.lp.box0 ∧ (enterOn s).lp.box1 = s.lp.box1 ∧
    (enterOn s).lp.nextTag = s.lp.nextTag ∧ (enterOn s).lp.lastFinal = s.lp.lastFinal := by
  generalize h : enterOn s = t
  unfold enterOn at h
  try dsimp only at h
  subst h; simp

@[simp] theorem enterEnabling_frame (s : State) :
    (enterEnabling s).now = s.now ∧ (enterEnabling s).pending = s.pending ∧ (enterEnabling s).pins = s.pins ∧
    (enterEnabling s).lc = s.lc ∧ (enterEnabling s).bi.rate = s.bi.rate ∧
    (enterEnabling s).bi.synced = s.bi.synced ∧ (enterEnabling s).bi.idle = s.bi.idle ∧
    (enterEnabling s).bi.mails = s.bi.mails ∧ (enterEnabling s).bi.tx = s.bi.tx ∧
    (enterEnabling s).bi.txState = s.bi.txState ∧ (enterEnabling s).bi.failRun = s.bi.failRun ∧
    (enterEnabling s).bi.mute = s.bi.mute ∧ (enterEnabling s).bi.timerA = s.bi.timerA ∧
    (enterEnabling s).bi.timerB = s.bi.timerB ∧ (enterEnabling s).bi.identityCount = s.bi.identityCount ∧
    (enterEnabling s).bi.pulse = s.bi.pulse ∧ (enterEnabling s).bi.stats = s.bi.stats ∧ (enterEnabling s).ro = s.ro ∧
    (enterEnabling s).sup = s.sup ∧ (enterEnabling s).sm = s.sm ∧ (enterEnabling s).fc = s.fc ∧
    (enterEnabling s).lp.phase = s.lp.phase ∧ (enterEnabling s).lp.result = s.lp.result ∧
    (enterEnabling s).lp.sdo = s.lp.sdo ∧ (enterEnabling s).lp.lostCommands = s.lp.lostCommands ∧
    (enterEnabling s).lp.mask = s.lp.mask ∧ (enterEnabling s).lp.fanCauses = s.lp.fanCauses ∧
    (enterEnabling s).lp.busCauses = s.lp.busCauses ∧ (enterEnabling s).lp.ejectCauses = s.lp.ejectCauses ∧
    (enterEnabling s).lp.laneOutcome = s.lp.laneOutcome ∧ (enterEnabling s).lp.laneSlot = s.lp.laneSlot ∧
    (enterEnabling s).lp.mailQueue = s.lp.mailQueue ∧ (enterEnabling s).lp.overflow = s.lp.overflow ∧
    (enterEnabling s).lp.box0 = s.lp.box0 ∧ (enterEnabling s).lp.box1 = s.lp.box1 ∧
    (enterEnabling s).lp.nextTag = s.lp.nextTag ∧ (enterEnabling s).lp.lastFinal = s.lp.lastFinal := by
  generalize h : enterEnabling s = t
  unfold enterEnabling at h
  try dsimp only at h
  (repeat' split at h) <;> subst h <;> simp

@[simp] theorem psLoss_frame (s : State) :
    (psLoss s).now = s.now ∧ (psLoss s).pending = s.pending ∧ (psLoss s).pins = s.pins ∧ (psLoss s).lc = s.lc ∧
    (psLoss s).bi.rate = s.bi.rate ∧ (psLoss s).bi.synced = s.bi.synced ∧ (psLoss s).bi.idle = s.bi.idle ∧
    (psLoss s).bi.mails = s.bi.mails ∧
    (psLoss s).bi.tx = s.bi.tx ∧ (psLoss s).bi.txState = s.bi.txState ∧ (psLoss s).bi.failRun = s.bi.failRun ∧
    (psLoss s).bi.mute = s.bi.mute ∧ (psLoss s).bi.timerA = s.bi.timerA ∧ (psLoss s).bi.timerB = s.bi.timerB ∧
    (psLoss s).bi.identityCount = s.bi.identityCount ∧ (psLoss s).bi.pulse = s.bi.pulse ∧
    (psLoss s).bi.stats = s.bi.stats ∧ (psLoss s).ro = s.ro ∧ (psLoss s).sup = s.sup ∧ (psLoss s).sm = s.sm ∧
    (psLoss s).fc = s.fc ∧ (psLoss s).lp.phase = s.lp.phase ∧ (psLoss s).lp.result = s.lp.result ∧
    (psLoss s).lp.sdo = s.lp.sdo ∧ (psLoss s).lp.lostCommands = s.lp.lostCommands ∧ (psLoss s).lp.mask = s.lp.mask ∧
    (psLoss s).lp.fanCauses = s.lp.fanCauses ∧ (psLoss s).lp.busCauses = s.lp.busCauses ∧
    (psLoss s).lp.ejectCauses = s.lp.ejectCauses ∧ (psLoss s).lp.laneOutcome = s.lp.laneOutcome ∧
    (psLoss s).lp.laneSlot = s.lp.laneSlot ∧ (psLoss s).lp.mailQueue = s.lp.mailQueue ∧
    (psLoss s).lp.overflow = s.lp.overflow ∧ (psLoss s).lp.box0 = s.lp.box0 ∧ (psLoss s).lp.box1 = s.lp.box1 ∧
    (psLoss s).lp.nextTag = s.lp.nextTag ∧ (psLoss s).lp.lastFinal = s.lp.lastFinal := by
  generalize h : psLoss s = t
  unfold psLoss at h
  try dsimp only at h
  (repeat' split at h) <;> subst h <;> simp

@[simp] theorem psAdmitted_frame (s : State) :
    (psAdmitted s).now = s.now ∧ (psAdmitted s).pending = s.pending ∧ (psAdmitted s).pins = s.pins ∧
    (psAdmitted s).lc = s.lc ∧ (psAdmitted s).bi.rate = s.bi.rate ∧ (psAdmitted s).bi.synced = s.bi.synced ∧
    (psAdmitted s).bi.idle = s.bi.idle ∧
    (psAdmitted s).bi.mails = s.bi.mails ∧ (psAdmitted s).bi.tx = s.bi.tx ∧
    (psAdmitted s).bi.txState = s.bi.txState ∧ (psAdmitted s).bi.failRun = s.bi.failRun ∧
    (psAdmitted s).bi.mute = s.bi.mute ∧ (psAdmitted s).bi.timerA = s.bi.timerA ∧
    (psAdmitted s).bi.timerB = s.bi.timerB ∧ (psAdmitted s).bi.identityCount = s.bi.identityCount ∧
    (psAdmitted s).bi.pulse = s.bi.pulse ∧ (psAdmitted s).bi.stats = s.bi.stats ∧ (psAdmitted s).ro = s.ro ∧
    (psAdmitted s).sup = s.sup ∧ (psAdmitted s).sm = s.sm ∧ (psAdmitted s).fc = s.fc ∧
    (psAdmitted s).lp.phase = s.lp.phase ∧ (psAdmitted s).lp.result = s.lp.result ∧
    (psAdmitted s).lp.sdo = s.lp.sdo ∧ (psAdmitted s).lp.lostCommands = s.lp.lostCommands ∧
    (psAdmitted s).lp.mask = s.lp.mask ∧ (psAdmitted s).lp.fanCauses = s.lp.fanCauses ∧
    (psAdmitted s).lp.busCauses = s.lp.busCauses ∧ (psAdmitted s).lp.ejectCauses = s.lp.ejectCauses ∧
    (psAdmitted s).lp.laneOutcome = s.lp.laneOutcome ∧ (psAdmitted s).lp.laneSlot = s.lp.laneSlot ∧
    (psAdmitted s).lp.mailQueue = s.lp.mailQueue ∧ (psAdmitted s).lp.overflow = s.lp.overflow ∧
    (psAdmitted s).lp.box0 = s.lp.box0 ∧ (psAdmitted s).lp.box1 = s.lp.box1 ∧
    (psAdmitted s).lp.nextTag = s.lp.nextTag ∧ (psAdmitted s).lp.lastFinal = s.lp.lastFinal := by
  generalize h : psAdmitted s = t
  unfold psAdmitted at h
  try dsimp only at h
  (repeat' split at h) <;> subst h <;> simp

@[simp] theorem noticed_frame (f : State → State) (s : State) :
    (noticed f s).now = (f s).now ∧ (noticed f s).pending = (f s).pending ∧ (noticed f s).pins = (f s).pins ∧
    (noticed f s).lc = (f s).lc ∧ (noticed f s).bi.rate = (f s).bi.rate ∧
    (noticed f s).bi.synced = (f s).bi.synced ∧ (noticed f s).bi.idle = (f s).bi.idle ∧
    (noticed f s).bi.mails = (f s).bi.mails ∧ (noticed f s).bi.tx = (f s).bi.tx ∧
    (noticed f s).bi.txState = (f s).bi.txState ∧ (noticed f s).bi.failRun = (f s).bi.failRun ∧
    (noticed f s).bi.mute = (f s).bi.mute ∧ (noticed f s).bi.timerA = (f s).bi.timerA ∧
    (noticed f s).bi.timerB = (f s).bi.timerB ∧ (noticed f s).bi.identityCount = (f s).bi.identityCount ∧
    (noticed f s).bi.pulse = (f s).bi.pulse ∧ (noticed f s).bi.stats = (f s).bi.stats ∧ (noticed f s).ro = (f s).ro ∧
    (noticed f s).sup = (f s).sup ∧ (noticed f s).sm = (f s).sm ∧ (noticed f s).fc = (f s).fc ∧
    (noticed f s).lp.phase = (f s).lp.phase ∧ (noticed f s).lp.result = (f s).lp.result ∧
    (noticed f s).lp.sdo = (f s).lp.sdo ∧ (noticed f s).lp.lostCommands = (f s).lp.lostCommands ∧
    (noticed f s).lp.mask = (f s).lp.mask ∧ (noticed f s).lp.fanCauses = (f s).lp.fanCauses ∧
    (noticed f s).lp.busCauses = (f s).lp.busCauses ∧ (noticed f s).lp.ejectCauses = (f s).lp.ejectCauses ∧
    (noticed f s).lp.laneOutcome = (f s).lp.laneOutcome ∧ (noticed f s).lp.laneSlot = (f s).lp.laneSlot ∧
    (noticed f s).lp.mailQueue = (f s).lp.mailQueue ∧ (noticed f s).lp.overflow = (f s).lp.overflow ∧
    (noticed f s).lp.box0 = (f s).lp.box0 ∧ (noticed f s).lp.box1 = (f s).lp.box1 ∧
    (noticed f s).lp.nextTag = (f s).lp.nextTag ∧ (noticed f s).lp.lastFinal = (f s).lp.lastFinal := by
  unfold noticed; dsimp only; (repeat' split) <;> simp

@[simp] theorem cancelReservation_frame (n : Nat) (s : State) :
    (cancelReservation n s).now = s.now ∧ (cancelReservation n s).pending = s.pending ∧
    (cancelReservation n s).pins = s.pins ∧ (cancelReservation n s).lc = s.lc ∧ (cancelReservation n s).bi = s.bi ∧
    (cancelReservation n s).ro = s.ro ∧ (cancelReservation n s).bu = s.bu ∧ (cancelReservation n s).sup = s.sup ∧
    (cancelReservation n s).sm = s.sm ∧ (cancelReservation n s).fc = s.fc ∧ (cancelReservation n s).lb = s.lb ∧
    (cancelReservation n s).lp = s.lp := by
  generalize h : cancelReservation n s = t
  unfold cancelReservation at h
  try dsimp only at h
  (repeat' split at h) <;> subst h <;> simp

@[simp] theorem drainLanes_frame (n : Nat) (s : State) :
    (drainLanes n s).now = s.now ∧ (drainLanes n s).pending = s.pending ∧ (drainLanes n s).pins = s.pins ∧
    (drainLanes n s).lc = s.lc ∧ (drainLanes n s).bi = s.bi ∧ (drainLanes n s).ro = s.ro ∧
    (drainLanes n s).bu = s.bu ∧ (drainLanes n s).ps = s.ps ∧ (drainLanes n s).sup = s.sup ∧
    (drainLanes n s).sm = s.sm ∧ (drainLanes n s).fc = s.fc ∧ (drainLanes n s).lb = s.lb ∧
    (drainLanes n s).lp = s.lp := by
  generalize h : drainLanes n s = t
  unfold drainLanes at h
  try dsimp only at h
  (repeat' split at h) <;> subst h <;> simp

@[simp] theorem takeRelease_frame (n : Nat) (s : State) :
    (takeRelease n s).now = s.now ∧ (takeRelease n s).pending = s.pending ∧ (takeRelease n s).pins = s.pins ∧
    (takeRelease n s).lc = s.lc ∧ (takeRelease n s).bi.rate = s.bi.rate ∧
    (takeRelease n s).bi.synced = s.bi.synced ∧ (takeRelease n s).bi.idle = s.bi.idle ∧
    (takeRelease n s).bi.mails = s.bi.mails ∧ (takeRelease n s).bi.tx = s.bi.tx ∧
    (takeRelease n s).bi.txState = s.bi.txState ∧ (takeRelease n s).bi.failRun = s.bi.failRun ∧
    (takeRelease n s).bi.mute = s.bi.mute ∧ (takeRelease n s).bi.timerA = s.bi.timerA ∧
    (takeRelease n s).bi.timerB = s.bi.timerB ∧ (takeRelease n s).bi.identityCount = s.bi.identityCount ∧
    (takeRelease n s).bi.pulse = s.bi.pulse ∧ (takeRelease n s).bi.stats = s.bi.stats ∧ (takeRelease n s).ro = s.ro ∧
    (takeRelease n s).sup = s.sup ∧ (takeRelease n s).sm = s.sm ∧ (takeRelease n s).fc = s.fc ∧
    (takeRelease n s).lp.phase = s.lp.phase ∧ (takeRelease n s).lp.result = s.lp.result ∧
    (takeRelease n s).lp.sdo = s.lp.sdo ∧ (takeRelease n s).lp.lostCommands = s.lp.lostCommands ∧
    (takeRelease n s).lp.mask = s.lp.mask ∧ (takeRelease n s).lp.fanCauses = s.lp.fanCauses ∧
    (takeRelease n s).lp.busCauses = s.lp.busCauses ∧ (takeRelease n s).lp.ejectCauses = s.lp.ejectCauses ∧
    (takeRelease n s).lp.laneOutcome = s.lp.laneOutcome ∧ (takeRelease n s).lp.laneSlot = s.lp.laneSlot ∧
    (takeRelease n s).lp.mailQueue = s.lp.mailQueue ∧ (takeRelease n s).lp.overflow = s.lp.overflow ∧
    (takeRelease n s).lp.box0 = s.lp.box0 ∧ (takeRelease n s).lp.box1 = s.lp.box1 ∧
    (takeRelease n s).lp.nextTag = s.lp.nextTag ∧ (takeRelease n s).lp.lastFinal = s.lp.lastFinal := by
  generalize h : takeRelease n s = t
  unfold takeRelease at h
  try dsimp only at h
  subst h; simp

@[simp] theorem takeRequest_frame (n m : Nat) (e : RosterEntry) (s : State) :
    (takeRequest n m e s).now = s.now ∧ (takeRequest n m e s).pending = s.pending ∧
    (takeRequest n m e s).pins = s.pins ∧ (takeRequest n m e s).lc = s.lc ∧
    (takeRequest n m e s).bi.rate = s.bi.rate ∧ (takeRequest n m e s).bi.synced = s.bi.synced ∧
    (takeRequest n m e s).bi.idle = s.bi.idle ∧
    (takeRequest n m e s).bi.mails = s.bi.mails ∧ (takeRequest n m e s).bi.tx = s.bi.tx ∧
    (takeRequest n m e s).bi.txState = s.bi.txState ∧ (takeRequest n m e s).bi.failRun = s.bi.failRun ∧
    (takeRequest n m e s).bi.mute = s.bi.mute ∧ (takeRequest n m e s).bi.timerA = s.bi.timerA ∧
    (takeRequest n m e s).bi.timerB = s.bi.timerB ∧ (takeRequest n m e s).bi.identityCount = s.bi.identityCount ∧
    (takeRequest n m e s).bi.pulse = s.bi.pulse ∧ (takeRequest n m e s).bi.stats = s.bi.stats ∧
    (takeRequest n m e s).ro = s.ro ∧ (takeRequest n m e s).sup = s.sup ∧ (takeRequest n m e s).sm = s.sm ∧
    (takeRequest n m e s).fc = s.fc ∧ (takeRequest n m e s).lp.phase = s.lp.phase ∧
    (takeRequest n m e s).lp.result = s.lp.result ∧ (takeRequest n m e s).lp.sdo = s.lp.sdo ∧
    (takeRequest n m e s).lp.lostCommands = s.lp.lostCommands ∧ (takeRequest n m e s).lp.mask = s.lp.mask ∧
    (takeRequest n m e s).lp.fanCauses = s.lp.fanCauses ∧ (takeRequest n m e s).lp.busCauses = s.lp.busCauses ∧
    (takeRequest n m e s).lp.ejectCauses = s.lp.ejectCauses ∧
    (takeRequest n m e s).lp.laneOutcome = s.lp.laneOutcome ∧ (takeRequest n m e s).lp.laneSlot = s.lp.laneSlot ∧
    (takeRequest n m e s).lp.mailQueue = s.lp.mailQueue ∧ (takeRequest n m e s).lp.overflow = s.lp.overflow ∧
    (takeRequest n m e s).lp.box0 = s.lp.box0 ∧ (takeRequest n m e s).lp.box1 = s.lp.box1 ∧
    (takeRequest n m e s).lp.nextTag = s.lp.nextTag ∧ (takeRequest n m e s).lp.lastFinal = s.lp.lastFinal := by
  generalize h : takeRequest n m e s = t
  unfold takeRequest at h
  try dsimp only at h
  (repeat' split at h) <;> subst h <;> simp

@[simp] theorem lanesRemoved_frame (n : Nat) (s : State) :
    (lanesRemoved n s).now = s.now ∧ (lanesRemoved n s).pending = s.pending ∧ (lanesRemoved n s).pins = s.pins ∧
    (lanesRemoved n s).lc = s.lc ∧ (lanesRemoved n s).bi.rate = s.bi.rate ∧
    (lanesRemoved n s).bi.synced = s.bi.synced ∧ (lanesRemoved n s).bi.idle = s.bi.idle ∧
    (lanesRemoved n s).bi.mails = s.bi.mails ∧ (lanesRemoved n s).bi.tx = s.bi.tx ∧
    (lanesRemoved n s).bi.txState = s.bi.txState ∧ (lanesRemoved n s).bi.failRun = s.bi.failRun ∧
    (lanesRemoved n s).bi.mute = s.bi.mute ∧ (lanesRemoved n s).bi.timerA = s.bi.timerA ∧
    (lanesRemoved n s).bi.timerB = s.bi.timerB ∧ (lanesRemoved n s).bi.identityCount = s.bi.identityCount ∧
    (lanesRemoved n s).bi.pulse = s.bi.pulse ∧ (lanesRemoved n s).bi.stats = s.bi.stats ∧
    (lanesRemoved n s).ro = s.ro ∧ (lanesRemoved n s).sup = s.sup ∧ (lanesRemoved n s).sm = s.sm ∧
    (lanesRemoved n s).fc = s.fc ∧ (lanesRemoved n s).lp.phase = s.lp.phase ∧
    (lanesRemoved n s).lp.result = s.lp.result ∧ (lanesRemoved n s).lp.sdo = s.lp.sdo ∧
    (lanesRemoved n s).lp.lostCommands = s.lp.lostCommands ∧ (lanesRemoved n s).lp.mask = s.lp.mask ∧
    (lanesRemoved n s).lp.fanCauses = s.lp.fanCauses ∧ (lanesRemoved n s).lp.busCauses = s.lp.busCauses ∧
    (lanesRemoved n s).lp.ejectCauses = s.lp.ejectCauses ∧ (lanesRemoved n s).lp.laneOutcome = s.lp.laneOutcome ∧
    (lanesRemoved n s).lp.laneSlot = s.lp.laneSlot ∧ (lanesRemoved n s).lp.mailQueue = s.lp.mailQueue ∧
    (lanesRemoved n s).lp.overflow = s.lp.overflow ∧ (lanesRemoved n s).lp.box0 = s.lp.box0 ∧
    (lanesRemoved n s).lp.box1 = s.lp.box1 ∧ (lanesRemoved n s).lp.nextTag = s.lp.nextTag ∧
    (lanesRemoved n s).lp.lastFinal = s.lp.lastFinal := by
  generalize h : lanesRemoved n s = t
  unfold lanesRemoved at h
  try dsimp only at h
  subst h; simp

@[simp] theorem lanesUnpowered_frame (n : Nat) (s : State) :
    (lanesUnpowered n s).now = s.now ∧ (lanesUnpowered n s).pending = s.pending ∧
    (lanesUnpowered n s).pins = s.pins ∧ (lanesUnpowered n s).lc = s.lc ∧ (lanesUnpowered n s).bi.rate = s.bi.rate ∧
    (lanesUnpowered n s).bi.synced = s.bi.synced ∧
    (lanesUnpowered n s).bi.idle = s.bi.idle ∧ (lanesUnpowered n s).bi.mails = s.bi.mails ∧
    (lanesUnpowered n s).bi.tx = s.bi.tx ∧ (lanesUnpowered n s).bi.txState = s.bi.txState ∧
    (lanesUnpowered n s).bi.failRun = s.bi.failRun ∧ (lanesUnpowered n s).bi.mute = s.bi.mute ∧
    (lanesUnpowered n s).bi.timerA = s.bi.timerA ∧ (lanesUnpowered n s).bi.timerB = s.bi.timerB ∧
    (lanesUnpowered n s).bi.identityCount = s.bi.identityCount ∧ (lanesUnpowered n s).bi.pulse = s.bi.pulse ∧
    (lanesUnpowered n s).bi.stats = s.bi.stats ∧ (lanesUnpowered n s).ro = s.ro ∧ (lanesUnpowered n s).sup = s.sup ∧
    (lanesUnpowered n s).sm = s.sm ∧ (lanesUnpowered n s).fc = s.fc ∧ (lanesUnpowered n s).lp.phase = s.lp.phase ∧
    (lanesUnpowered n s).lp.result = s.lp.result ∧ (lanesUnpowered n s).lp.sdo = s.lp.sdo ∧
    (lanesUnpowered n s).lp.lostCommands = s.lp.lostCommands ∧ (lanesUnpowered n s).lp.mask = s.lp.mask ∧
    (lanesUnpowered n s).lp.fanCauses = s.lp.fanCauses ∧ (lanesUnpowered n s).lp.busCauses = s.lp.busCauses ∧
    (lanesUnpowered n s).lp.ejectCauses = s.lp.ejectCauses ∧ (lanesUnpowered n s).lp.laneOutcome = s.lp.laneOutcome ∧
    (lanesUnpowered n s).lp.laneSlot = s.lp.laneSlot ∧ (lanesUnpowered n s).lp.mailQueue = s.lp.mailQueue ∧
    (lanesUnpowered n s).lp.overflow = s.lp.overflow ∧ (lanesUnpowered n s).lp.box0 = s.lp.box0 ∧
    (lanesUnpowered n s).lp.box1 = s.lp.box1 ∧ (lanesUnpowered n s).lp.nextTag = s.lp.nextTag ∧
    (lanesUnpowered n s).lp.lastFinal = s.lp.lastFinal := by
  generalize h : lanesUnpowered n s = t
  unfold lanesUnpowered at h
  try dsimp only at h
  (repeat' split at h) <;> subst h <;> simp

@[simp] theorem laneFaultOn_frame (n : Nat) (s : State) :
    (laneFaultOn n s).now = s.now ∧ (laneFaultOn n s).pending = s.pending ∧ (laneFaultOn n s).pins = s.pins ∧
    (laneFaultOn n s).lc = s.lc ∧ (laneFaultOn n s).bi.rate = s.bi.rate ∧
    (laneFaultOn n s).bi.synced = s.bi.synced ∧ (laneFaultOn n s).bi.idle = s.bi.idle ∧
    (laneFaultOn n s).bi.mails = s.bi.mails ∧ (laneFaultOn n s).bi.tx = s.bi.tx ∧
    (laneFaultOn n s).bi.txState = s.bi.txState ∧ (laneFaultOn n s).bi.failRun = s.bi.failRun ∧
    (laneFaultOn n s).bi.mute = s.bi.mute ∧ (laneFaultOn n s).bi.timerA = s.bi.timerA ∧
    (laneFaultOn n s).bi.timerB = s.bi.timerB ∧ (laneFaultOn n s).bi.identityCount = s.bi.identityCount ∧
    (laneFaultOn n s).bi.pulse = s.bi.pulse ∧ (laneFaultOn n s).bi.stats = s.bi.stats ∧ (laneFaultOn n s).ro = s.ro ∧
    (laneFaultOn n s).sup = s.sup ∧ (laneFaultOn n s).sm = s.sm ∧ (laneFaultOn n s).fc = s.fc ∧
    (laneFaultOn n s).lp.phase = s.lp.phase ∧ (laneFaultOn n s).lp.result = s.lp.result ∧
    (laneFaultOn n s).lp.sdo = s.lp.sdo ∧ (laneFaultOn n s).lp.lostCommands = s.lp.lostCommands ∧
    (laneFaultOn n s).lp.mask = s.lp.mask ∧ (laneFaultOn n s).lp.fanCauses = s.lp.fanCauses ∧
    (laneFaultOn n s).lp.busCauses = s.lp.busCauses ∧ (laneFaultOn n s).lp.ejectCauses = s.lp.ejectCauses ∧
    (laneFaultOn n s).lp.laneOutcome = s.lp.laneOutcome ∧ (laneFaultOn n s).lp.laneSlot = s.lp.laneSlot ∧
    (laneFaultOn n s).lp.mailQueue = s.lp.mailQueue ∧ (laneFaultOn n s).lp.overflow = s.lp.overflow ∧
    (laneFaultOn n s).lp.box0 = s.lp.box0 ∧ (laneFaultOn n s).lp.box1 = s.lp.box1 ∧
    (laneFaultOn n s).lp.nextTag = s.lp.nextTag ∧ (laneFaultOn n s).lp.lastFinal = s.lp.lastFinal := by
  generalize h : laneFaultOn n s = t
  unfold laneFaultOn at h
  try dsimp only at h
  (repeat' split at h) <;> subst h <;> simp

@[simp] theorem laneFaultOff_frame (n : Nat) (s : State) :
    (laneFaultOff n s).now = s.now ∧ (laneFaultOff n s).pending = s.pending ∧ (laneFaultOff n s).pins = s.pins ∧
    (laneFaultOff n s).lc = s.lc ∧ (laneFaultOff n s).bi.rate = s.bi.rate ∧
    (laneFaultOff n s).bi.synced = s.bi.synced ∧ (laneFaultOff n s).bi.idle = s.bi.idle ∧
    (laneFaultOff n s).bi.mails = s.bi.mails ∧ (laneFaultOff n s).bi.tx = s.bi.tx ∧
    (laneFaultOff n s).bi.txState = s.bi.txState ∧ (laneFaultOff n s).bi.failRun = s.bi.failRun ∧
    (laneFaultOff n s).bi.mute = s.bi.mute ∧ (laneFaultOff n s).bi.timerA = s.bi.timerA ∧
    (laneFaultOff n s).bi.timerB = s.bi.timerB ∧ (laneFaultOff n s).bi.identityCount = s.bi.identityCount ∧
    (laneFaultOff n s).bi.pulse = s.bi.pulse ∧ (laneFaultOff n s).bi.stats = s.bi.stats ∧
    (laneFaultOff n s).ro = s.ro ∧ (laneFaultOff n s).sup = s.sup ∧ (laneFaultOff n s).sm = s.sm ∧
    (laneFaultOff n s).fc = s.fc ∧ (laneFaultOff n s).lp.phase = s.lp.phase ∧
    (laneFaultOff n s).lp.result = s.lp.result ∧ (laneFaultOff n s).lp.sdo = s.lp.sdo ∧
    (laneFaultOff n s).lp.lostCommands = s.lp.lostCommands ∧ (laneFaultOff n s).lp.mask = s.lp.mask ∧
    (laneFaultOff n s).lp.fanCauses = s.lp.fanCauses ∧ (laneFaultOff n s).lp.busCauses = s.lp.busCauses ∧
    (laneFaultOff n s).lp.ejectCauses = s.lp.ejectCauses ∧ (laneFaultOff n s).lp.laneOutcome = s.lp.laneOutcome ∧
    (laneFaultOff n s).lp.laneSlot = s.lp.laneSlot ∧ (laneFaultOff n s).lp.mailQueue = s.lp.mailQueue ∧
    (laneFaultOff n s).lp.overflow = s.lp.overflow ∧ (laneFaultOff n s).lp.box0 = s.lp.box0 ∧
    (laneFaultOff n s).lp.box1 = s.lp.box1 ∧ (laneFaultOff n s).lp.nextTag = s.lp.nextTag ∧
    (laneFaultOff n s).lp.lastFinal = s.lp.lastFinal := by
  generalize h : laneFaultOff n s = t
  unfold laneFaultOff at h
  try dsimp only at h
  (repeat' split at h) <;> subst h <;> simp

end Sys2Proof.Machine
end

