-- ==== Sys2Proof/Laws/Containers.lean ====
section
/-! SUPPORT. The tables keyed by slot: reading after writing, and that every operation keeps the keys in order. -/

namespace Sys2Proof.Machine

/-- The canonical form as a statement about the keys. -/
theorem slotWf_iff {α : Type} (m : SlotMap α) : slotWf m = true ↔ (m.map (·.1)).Pairwise (· < ·) := by
  induction m with
  | nil => simp [slotWf]
  | cons a t ih =>
    cases t with
    | nil => simp [slotWf]
    | cons b u =>
      obtain ⟨j, v⟩ := a
      obtain ⟨k, w⟩ := b
      simp only [slotWf, Bool.and_eq_true, decide_eq_true_eq, ih, List.map_cons, List.pairwise_cons, List.mem_cons,
        forall_eq_or_imp]
      constructor
      · rintro ⟨h1, h2, h3⟩
        exact ⟨⟨h1, fun x hx => Nat.lt_trans h1 (h2 x hx)⟩, h2, h3⟩
      · rintro ⟨⟨h1, _⟩, h2, h3⟩
        exact ⟨h1, h2, h3⟩

theorem slotGet_slotSet {α : Type} (m : SlotMap α) (k : Nat) (v : α) : slotGet (slotSet m k v) k = some v := by
  induction m with
  | nil => simp [slotSet, slotGet]
  | cons a t ih =>
    obtain ⟨j, w⟩ := a
    simp only [slotSet]
    split
    · simp [slotGet]
    · split
      · simp [slotGet]
      · simp [slotGet, ih, *]

theorem slotGet_slotSet_ne {α : Type} (m : SlotMap α) (k n : Nat) (v : α) (h : n ≠ k) :
    slotGet (slotSet m k v) n = slotGet m n := by
  induction m with
  | nil => simp [slotSet, slotGet, Ne.symm h]
  | cons a t ih =>
    obtain ⟨j, w⟩ := a
    simp only [slotSet]
    split
    · simp [slotGet, Ne.symm h]
    · split
      · next hj => subst hj; simp [slotGet, Ne.symm h]
      · simp [slotGet, ih]

theorem slotGet_slotDel {α : Type} (m : SlotMap α) (k : Nat) : slotGet (slotDel m k) k = none := by
  induction m with
  | nil => rfl
  | cons a t ih =>
    obtain ⟨j, w⟩ := a
    simp only [slotDel]
    split
    · exact ih
    · simp [slotGet, ih, *]

theorem slotGet_slotDel_ne {α : Type} (m : SlotMap α) (k n : Nat) (h : n ≠ k) :
    slotGet (slotDel m k) n = slotGet m n := by
  induction m with
  | nil => rfl
  | cons a t ih =>
    obtain ⟨j, w⟩ := a
    simp only [slotDel]
    split
    · next hj => subst hj; simp [slotGet, ih, Ne.symm h]
    · simp [slotGet, ih]

theorem mem_slotSet_key {α : Type} (m : SlotMap α) (k x : Nat) (v : α) :
    x ∈ (slotSet m k v).map (·.1) → x = k ∨ x ∈ m.map (·.1) := by
  induction m with
  | nil => simp [slotSet]
  | cons a t ih =>
    obtain ⟨j, w⟩ := a
    simp only [slotSet]
    split
    · simp
    · split
      · next hj => subst hj; simp
      · simp only [List.map_cons, List.mem_cons]
        rintro (rfl | hx)
        · exact Or.inr (Or.inl rfl)
        · rcases ih hx with h | h
          · exact Or.inl h
          · exact Or.inr (Or.inr h)

@[simp] theorem slotSet_wf {α : Type} (m : SlotMap α) (k : Nat) (v : α) (h : slotWf m = true) :
    slotWf (slotSet m k v) = true := by
  rw [slotWf_iff] at *
  induction m with
  | nil => simp [slotSet]
  | cons a t ih =>
    obtain ⟨j, w⟩ := a
    simp only [List.map_cons, List.pairwise_cons] at h
    simp only [slotSet]
    split
    · next hk =>
      simp only [List.map_cons, List.pairwise_cons, List.mem_cons, forall_eq_or_imp]
      exact ⟨⟨hk, fun x hx => Nat.lt_trans hk (h.1 x hx)⟩, h.1, h.2⟩
    · split
      · next hj => subst hj; simpa using h
      · next hk hj =>
        simp only [List.map_cons, List.pairwise_cons]
        refine ⟨fun x hx => ?_, ih h.2⟩
        rcases mem_slotSet_key t k x v hx with e | e
        · omega
        · exact h.1 x e

theorem slotDel_eq_filter {α : Type} (m : SlotMap α) (k : Nat) : slotDel m k = m.filter (fun p => p.1 != k) := by
  induction m with
  | nil => rfl
  | cons a t ih =>
    obtain ⟨j, w⟩ := a
    simp only [slotDel]
    split
    · next hj => subst hj; simp [ih]
    · next hj => simp [ih, hj]

@[simp] theorem slotFilter_wf {α : Type} (m : SlotMap α) (f : Nat × α → Bool) (h : slotWf m = true) :
    slotWf (m.filter f) = true := by
  rw [slotWf_iff] at *
  exact List.Pairwise.sublist (List.Sublist.map _ List.filter_sublist) h

@[simp] theorem slotDel_wf {α : Type} (m : SlotMap α) (k : Nat) (h : slotWf m = true) : slotWf (slotDel m k) = true := by
  rw [slotDel_eq_filter]
  exact slotFilter_wf m _ h

@[simp] theorem slotMap_wf {α β : Type} (f : Nat → α → β) (m : SlotMap α) (h : slotWf m = true) :
    slotWf (slotMap f m) = true := by
  rw [slotWf_iff] at *
  simpa [slotMap, List.map_map, Function.comp_def] using h

/-- Writing a record that is there already leaves the table as long as it was. -/
theorem slotSet_length_of_mem {α : Type} (m : SlotMap α) (k : Nat) (v : α) (hw : slotWf m = true)
    (h : (slotGet m k).isSome) : (slotSet m k v).length = m.length := by
  rw [slotWf_iff] at hw
  induction m with
  | nil => simp [slotGet] at h
  | cons a t ih =>
    obtain ⟨j, w⟩ := a
    simp only [List.map_cons, List.pairwise_cons] at hw
    simp only [slotSet]
    split
    · next hk =>
      exfalso
      have hj : ¬ j = k := by omega
      simp only [slotGet, hj, if_false] at h
      have hm : ∀ (u : SlotMap α), (slotGet u k).isSome → k ∈ u.map (·.1) := by
        intro u
        induction u with
        | nil => simp [slotGet]
        | cons b u ihu =>
          obtain ⟨i, x⟩ := b
          simp only [slotGet]
          split
          · simp_all
          · intro hu
            exact List.mem_cons_of_mem _ (ihu hu)
      have := hw.1 k (hm t h)
      omega
    · split
      · simp
      · next hj =>
        simp only [slotGet, hj, if_false] at h
        simp [ih hw.2 h]

theorem slotSet_length_le {α : Type} (m : SlotMap α) (k : Nat) (v : α) : (slotSet m k v).length ≤ m.length + 1 := by
  induction m with
  | nil => simp [slotSet]
  | cons a t ih =>
    obtain ⟨j, w⟩ := a
    simp only [slotSet]
    split
    · simp
    · split
      · simp
      · simp only [List.length_cons]
        omega

theorem slotDel_length_le {α : Type} (m : SlotMap α) (k : Nat) : (slotDel m k).length ≤ m.length := by
  rw [slotDel_eq_filter]
  exact List.length_filter_le _ _

end Sys2Proof.Machine
end

