-- ==== Sys2Proof/Laws/Units.lean ====
section
/-! SUPPORT. What the supply controller, the fan controller and the sensor monitor leave unchanged. -/

namespace Sys2Proof.Machine

@[simp] theorem evaluateSupply_frame (s : State) :
    (evaluateSupply s).now = s.now ∧ (evaluateSupply s).pending = s.pending ∧ (evaluateSupply s).pins = s.pins ∧
    (evaluateSupply s).lc = s.lc ∧ (evaluateSupply s).bi.rate = s.bi.rate ∧
    (evaluateSupply s).bi.synced = s.bi.synced ∧ (evaluateSupply s).bi.idle = s.bi.idle ∧
    (evaluateSupply s).bi.lanes = s.bi.lanes ∧ (evaluateSupply s).bi.mails = s.bi.mails ∧
    (evaluateSupply s).bi.tx = s.bi.tx ∧ (evaluateSupply s).bi.txState = s.bi.txState ∧
    (evaluateSupply s).bi.failRun = s.bi.failRun ∧ (evaluateSupply s).bi.mute = s.bi.mute ∧
    (evaluateSupply s).bi.timerA = s.bi.timerA ∧ (evaluateSupply s).bi.timerB = s.bi.timerB ∧
    (evaluateSupply s).bi.identityCount = s.bi.identityCount ∧ (evaluateSupply s).bi.pulse = s.bi.pulse ∧
    (evaluateSupply s).bi.stats = s.bi.stats ∧ (evaluateSupply s).ro = s.ro ∧ (evaluateSupply s).ps = s.ps ∧
    (evaluateSupply s).sm = s.sm ∧ (evaluateSupply s).fc = s.fc ∧ (evaluateSupply s).lm = s.lm ∧
    (evaluateSupply s).lb = s.lb ∧ (evaluateSupply s).lp.phase = s.lp.phase ∧
    (evaluateSupply s).lp.result = s.lp.result ∧ (evaluateSupply s).lp.sdo = s.lp.sdo ∧
    (evaluateSupply s).lp.lostCommands = s.lp.lostCommands ∧ (evaluateSupply s).lp.mask = s.lp.mask ∧
    (evaluateSupply s).lp.shedCauses = s.lp.shedCauses ∧ (evaluateSupply s).lp.raiseCauses = s.lp.raiseCauses ∧
    (evaluateSupply s).lp.fanCauses = s.lp.fanCauses ∧ (evaluateSupply s).lp.busCauses = s.lp.busCauses ∧
    (evaluateSupply s).lp.ejectCauses = s.lp.ejectCauses ∧ (evaluateSupply s).lp.laneOutcome = s.lp.laneOutcome ∧
    (evaluateSupply s).lp.laneSlot = s.lp.laneSlot ∧ (evaluateSupply s).lp.mailQueue = s.lp.mailQueue ∧
    (evaluateSupply s).lp.overflow = s.lp.overflow ∧ (evaluateSupply s).lp.box0 = s.lp.box0 ∧
    (evaluateSupply s).lp.box1 = s.lp.box1 ∧ (evaluateSupply s).lp.nextTag = s.lp.nextTag ∧
    (evaluateSupply s).lp.lastFinal = s.lp.lastFinal := by
  generalize h : evaluateSupply s = t
  unfold evaluateSupply at h
  try dsimp only at h
  (repeat' split at h) <;> subst h <;> simp

@[simp] theorem sendPulse_frame (s : State) :
    (sendPulse s).now = s.now ∧ (sendPulse s).pending = s.pending ∧ (sendPulse s).pins = s.pins ∧
    (sendPulse s).lc = s.lc ∧ (sendPulse s).bi.rate = s.bi.rate ∧ (sendPulse s).bi.synced = s.bi.synced ∧
    (sendPulse s).bi.kinds = s.bi.kinds ∧
    (sendPulse s).bi.lanes = s.bi.lanes ∧ (sendPulse s).bi.mails = s.bi.mails ∧
    (sendPulse s).bi.txState = s.bi.txState ∧ (sendPulse s).bi.failRun = s.bi.failRun ∧
    (sendPulse s).bi.mute = s.bi.mute ∧ (sendPulse s).bi.timerA = s.bi.timerA ∧
    (sendPulse s).bi.timerB = s.bi.timerB ∧ (sendPulse s).bi.identityCount = s.bi.identityCount ∧
    (sendPulse s).bi.stats = s.bi.stats ∧ (sendPulse s).ro = s.ro ∧ (sendPulse s).bu = s.bu ∧
    (sendPulse s).ps = s.ps ∧ (sendPulse s).sup = s.sup ∧ (sendPulse s).sm = s.sm ∧ (sendPulse s).fc = s.fc ∧
    (sendPulse s).lm = s.lm ∧ (sendPulse s).lb = s.lb ∧ (sendPulse s).lp = s.lp := by
  generalize h : sendPulse s = t
  unfold sendPulse at h
  try dsimp only at h
  (repeat' split at h) <;> subst h <;> simp

@[simp] theorem askPulse_frame (s : State) :
    (askPulse s).now = s.now ∧ (askPulse s).pending = s.pending ∧ (askPulse s).pins = s.pins ∧
    (askPulse s).lc = s.lc ∧ (askPulse s).bi.rate = s.bi.rate ∧ (askPulse s).bi.synced = s.bi.synced ∧
    (askPulse s).bi.kinds = s.bi.kinds ∧
    (askPulse s).bi.lanes = s.bi.lanes ∧ (askPulse s).bi.mails = s.bi.mails ∧
    (askPulse s).bi.txState = s.bi.txState ∧ (askPulse s).bi.failRun = s.bi.failRun ∧
    (askPulse s).bi.mute = s.bi.mute ∧ (askPulse s).bi.timerA = s.bi.timerA ∧ (askPulse s).bi.timerB = s.bi.timerB ∧
    (askPulse s).bi.identityCount = s.bi.identityCount ∧ (askPulse s).bi.stats = s.bi.stats ∧
    (askPulse s).ro = s.ro ∧ (askPulse s).bu = s.bu ∧ (askPulse s).ps = s.ps ∧ (askPulse s).sm = s.sm ∧
    (askPulse s).fc = s.fc ∧ (askPulse s).lm = s.lm ∧ (askPulse s).lb = s.lb ∧ (askPulse s).lp.phase = s.lp.phase ∧
    (askPulse s).lp.result = s.lp.result ∧ (askPulse s).lp.sdo = s.lp.sdo ∧
    (askPulse s).lp.lostCommands = s.lp.lostCommands ∧ (askPulse s).lp.mask = s.lp.mask ∧
    (askPulse s).lp.powerCause = s.lp.powerCause ∧ (askPulse s).lp.shedCauses = s.lp.shedCauses ∧
    (askPulse s).lp.raiseCauses = s.lp.raiseCauses ∧ (askPulse s).lp.fanCauses = s.lp.fanCauses ∧
    (askPulse s).lp.busCauses = s.lp.busCauses ∧ (askPulse s).lp.ejectCauses = s.lp.ejectCauses ∧
    (askPulse s).lp.laneOutcome = s.lp.laneOutcome ∧ (askPulse s).lp.laneSlot = s.lp.laneSlot ∧
    (askPulse s).lp.mailQueue = s.lp.mailQueue ∧ (askPulse s).lp.overflow = s.lp.overflow ∧
    (askPulse s).lp.box0 = s.lp.box0 ∧ (askPulse s).lp.box1 = s.lp.box1 ∧ (askPulse s).lp.nextTag = s.lp.nextTag ∧
    (askPulse s).lp.lastFinal = s.lp.lastFinal := by
  generalize h : askPulse s = t
  unfold askPulse at h
  try dsimp only at h
  subst h; simp

@[simp] theorem watchLoad_frame (n : Nat) (s : State) :
    (watchLoad n s).now = s.now ∧ (watchLoad n s).pending = s.pending ∧ (watchLoad n s).pins = s.pins ∧
    (watchLoad n s).lc = s.lc ∧ (watchLoad n s).bi.rate = s.bi.rate ∧ (watchLoad n s).bi.synced = s.bi.synced ∧
    (watchLoad n s).bi.kinds = s.bi.kinds ∧
    (watchLoad n s).bi.lanes = s.bi.lanes ∧ (watchLoad n s).bi.mails = s.bi.mails ∧
    (watchLoad n s).bi.txState = s.bi.txState ∧ (watchLoad n s).bi.failRun = s.bi.failRun ∧
    (watchLoad n s).bi.mute = s.bi.mute ∧ (watchLoad n s).bi.timerA = s.bi.timerA ∧
    (watchLoad n s).bi.timerB = s.bi.timerB ∧ (watchLoad n s).bi.identityCount = s.bi.identityCount ∧
    (watchLoad n s).bi.stats = s.bi.stats ∧ (watchLoad n s).ro = s.ro ∧ (watchLoad n s).bu = s.bu ∧
    (watchLoad n s).ps = s.ps ∧ (watchLoad n s).sm = s.sm ∧ (watchLoad n s).fc = s.fc ∧ (watchLoad n s).lm = s.lm ∧
    (watchLoad n s).lb = s.lb ∧ (watchLoad n s).lp.phase = s.lp.phase ∧ (watchLoad n s).lp.result = s.lp.result ∧
    (watchLoad n s).lp.sdo = s.lp.sdo ∧ (watchLoad n s).lp.lostCommands = s.lp.lostCommands ∧
    (watchLoad n s).lp.mask = s.lp.mask ∧ (watchLoad n s).lp.powerCause = s.lp.powerCause ∧
    (watchLoad n s).lp.shedCauses = s.lp.shedCauses ∧ (watchLoad n s).lp.raiseCauses = s.lp.raiseCauses ∧
    (watchLoad n s).lp.fanCauses = s.lp.fanCauses ∧ (watchLoad n s).lp.busCauses = s.lp.busCauses ∧
    (watchLoad n s).lp.ejectCauses = s.lp.ejectCauses ∧ (watchLoad n s).lp.laneOutcome = s.lp.laneOutcome ∧
    (watchLoad n s).lp.laneSlot = s.lp.laneSlot ∧ (watchLoad n s).lp.mailQueue = s.lp.mailQueue ∧
    (watchLoad n s).lp.overflow = s.lp.overflow ∧ (watchLoad n s).lp.box0 = s.lp.box0 ∧
    (watchLoad n s).lp.box1 = s.lp.box1 ∧ (watchLoad n s).lp.nextTag = s.lp.nextTag ∧
    (watchLoad n s).lp.lastFinal = s.lp.lastFinal := by
  generalize h : watchLoad n s = t
  unfold watchLoad at h
  try dsimp only at h
  (repeat' split at h) <;> subst h <;> simp

@[simp] theorem endGuard_frame (s : State) :
    (endGuard s).now = s.now ∧ (endGuard s).pending = s.pending ∧ (endGuard s).pins = s.pins ∧
    (endGuard s).lc = s.lc ∧ (endGuard s).bi.rate = s.bi.rate ∧ (endGuard s).bi.synced = s.bi.synced ∧
    (endGuard s).bi.kinds = s.bi.kinds ∧
    (endGuard s).bi.lanes = s.bi.lanes ∧ (endGuard s).bi.mails = s.bi.mails ∧
    (endGuard s).bi.txState = s.bi.txState ∧ (endGuard s).bi.failRun = s.bi.failRun ∧
    (endGuard s).bi.mute = s.bi.mute ∧ (endGuard s).bi.timerA = s.bi.timerA ∧ (endGuard s).bi.timerB = s.bi.timerB ∧
    (endGuard s).bi.identityCount = s.bi.identityCount ∧ (endGuard s).bi.stats = s.bi.stats ∧
    (endGuard s).ro = s.ro ∧ (endGuard s).bu = s.bu ∧ (endGuard s).ps = s.ps ∧ (endGuard s).sm = s.sm ∧
    (endGuard s).fc = s.fc ∧ (endGuard s).lm = s.lm ∧ (endGuard s).lb = s.lb ∧ (endGuard s).lp.phase = s.lp.phase ∧
    (endGuard s).lp.result = s.lp.result ∧ (endGuard s).lp.sdo = s.lp.sdo ∧
    (endGuard s).lp.lostCommands = s.lp.lostCommands ∧ (endGuard s).lp.mask = s.lp.mask ∧
    (endGuard s).lp.powerCause = s.lp.powerCause ∧ (endGuard s).lp.shedCauses = s.lp.shedCauses ∧
    (endGuard s).lp.raiseCauses = s.lp.raiseCauses ∧ (endGuard s).lp.fanCauses = s.lp.fanCauses ∧
    (endGuard s).lp.busCauses = s.lp.busCauses ∧ (endGuard s).lp.ejectCauses = s.lp.ejectCauses ∧
    (endGuard s).lp.laneOutcome = s.lp.laneOutcome ∧ (endGuard s).lp.laneSlot = s.lp.laneSlot ∧
    (endGuard s).lp.mailQueue = s.lp.mailQueue ∧ (endGuard s).lp.overflow = s.lp.overflow ∧
    (endGuard s).lp.box0 = s.lp.box0 ∧ (endGuard s).lp.box1 = s.lp.box1 ∧ (endGuard s).lp.nextTag = s.lp.nextTag ∧
    (endGuard s).lp.lastFinal = s.lp.lastFinal := by
  generalize h : endGuard s = t
  unfold endGuard at h
  try dsimp only at h
  (repeat' split at h) <;> subst h <;> simp

@[simp] theorem startDrain_frame (s : State) :
    (startDrain s).now = s.now ∧ (startDrain s).pending = s.pending ∧ (startDrain s).pins = s.pins ∧
    (startDrain s).lc = s.lc ∧ (startDrain s).bi = s.bi ∧ (startDrain s).ro = s.ro ∧ (startDrain s).bu = s.bu ∧
    (startDrain s).ps = s.ps ∧ (startDrain s).sm = s.sm ∧ (startDrain s).fc = s.fc ∧ (startDrain s).lm = s.lm ∧
    (startDrain s).lb = s.lb ∧ (startDrain s).lp = s.lp := by
  generalize h : startDrain s = t
  unfold startDrain at h
  try dsimp only at h
  subst h; simp

@[simp] theorem abandonDrain_frame (s : State) :
    (abandonDrain s).now = s.now ∧ (abandonDrain s).pending = s.pending ∧ (abandonDrain s).pins = s.pins ∧
    (abandonDrain s).lc = s.lc ∧ (abandonDrain s).bi = s.bi ∧ (abandonDrain s).ro = s.ro ∧
    (abandonDrain s).bu = s.bu ∧ (abandonDrain s).ps = s.ps ∧ (abandonDrain s).sm = s.sm ∧
    (abandonDrain s).fc = s.fc ∧ (abandonDrain s).lm = s.lm ∧ (abandonDrain s).lb = s.lb ∧
    (abandonDrain s).lp = s.lp := by
  simp [abandonDrain]

@[simp] theorem abandonDrain_sup (s : State) : (abandonDrain s).sup = { s.sup with drain := .stopped 0 } := rfl

@[simp] theorem endDrain_frame (s : State) :
    (endDrain s).now = s.now ∧ (endDrain s).pending = s.pending ∧ (endDrain s).pins = s.pins ∧
    (endDrain s).lc = s.lc ∧ (endDrain s).bi = s.bi ∧ (endDrain s).ro = s.ro ∧ (endDrain s).bu = s.bu ∧
    (endDrain s).ps = s.ps ∧ (endDrain s).sm = s.sm ∧ (endDrain s).fc = s.fc ∧ (endDrain s).lm = s.lm ∧
    (endDrain s).lb = s.lb ∧ (endDrain s).lp.phase = s.lp.phase ∧ (endDrain s).lp.result = s.lp.result ∧
    (endDrain s).lp.sdo = s.lp.sdo ∧ (endDrain s).lp.lostCommands = s.lp.lostCommands ∧
    (endDrain s).lp.mask = s.lp.mask ∧ (endDrain s).lp.shedCauses = s.lp.shedCauses ∧
    (endDrain s).lp.raiseCauses = s.lp.raiseCauses ∧ (endDrain s).lp.fanCauses = s.lp.fanCauses ∧
    (endDrain s).lp.busCauses = s.lp.busCauses ∧ (endDrain s).lp.ejectCauses = s.lp.ejectCauses ∧
    (endDrain s).lp.laneOutcome = s.lp.laneOutcome ∧ (endDrain s).lp.laneSlot = s.lp.laneSlot ∧
    (endDrain s).lp.mailQueue = s.lp.mailQueue ∧ (endDrain s).lp.overflow = s.lp.overflow ∧
    (endDrain s).lp.box0 = s.lp.box0 ∧ (endDrain s).lp.box1 = s.lp.box1 ∧ (endDrain s).lp.nextTag = s.lp.nextTag ∧
    (endDrain s).lp.lastFinal = s.lp.lastFinal := by
  generalize h : endDrain s = t
  unfold endDrain at h
  try dsimp only at h
  subst h; simp

@[simp] theorem supplyOff_frame (s : State) :
    (supplyOff s).now = s.now ∧ (supplyOff s).pending = s.pending ∧ (supplyOff s).pins = s.pins ∧
    (supplyOff s).lc = s.lc ∧ (supplyOff s).bi.rate = s.bi.rate ∧ (supplyOff s).bi.synced = s.bi.synced ∧
    (supplyOff s).bi.idle = s.bi.idle ∧
    (supplyOff s).bi.lanes = s.bi.lanes ∧ (supplyOff s).bi.mails = s.bi.mails ∧ (supplyOff s).bi.tx = s.bi.tx ∧
    (supplyOff s).bi.txState = s.bi.txState ∧ (supplyOff s).bi.failRun = s.bi.failRun ∧
    (supplyOff s).bi.mute = s.bi.mute ∧ (supplyOff s).bi.timerA = s.bi.timerA ∧
    (supplyOff s).bi.timerB = s.bi.timerB ∧ (supplyOff s).bi.identityCount = s.bi.identityCount ∧
    (supplyOff s).bi.pulse = s.bi.pulse ∧ (supplyOff s).bi.stats = s.bi.stats ∧ (supplyOff s).ro = s.ro ∧
    (supplyOff s).ps = s.ps ∧ (supplyOff s).sm = s.sm ∧ (supplyOff s).fc = s.fc ∧ (supplyOff s).lm = s.lm ∧
    (supplyOff s).lb = s.lb ∧ (supplyOff s).lp.phase = s.lp.phase ∧ (supplyOff s).lp.result = s.lp.result ∧
    (supplyOff s).lp.sdo = s.lp.sdo ∧ (supplyOff s).lp.lostCommands = s.lp.lostCommands ∧
    (supplyOff s).lp.mask = s.lp.mask ∧ (supplyOff s).lp.shedCauses = s.lp.shedCauses ∧
    (supplyOff s).lp.raiseCauses = s.lp.raiseCauses ∧ (supplyOff s).lp.fanCauses = s.lp.fanCauses ∧
    (supplyOff s).lp.busCauses = s.lp.busCauses ∧ (supplyOff s).lp.ejectCauses = s.lp.ejectCauses ∧
    (supplyOff s).lp.laneOutcome = s.lp.laneOutcome ∧ (supplyOff s).lp.laneSlot = s.lp.laneSlot ∧
    (supplyOff s).lp.mailQueue = s.lp.mailQueue ∧ (supplyOff s).lp.overflow = s.lp.overflow ∧
    (supplyOff s).lp.box0 = s.lp.box0 ∧ (supplyOff s).lp.box1 = s.lp.box1 ∧ (supplyOff s).lp.nextTag = s.lp.nextTag ∧
    (supplyOff s).lp.lastFinal = s.lp.lastFinal := by
  generalize h : supplyOff s = t
  unfold supplyOff at h
  try dsimp only at h
  (repeat' split at h) <;> subst h <;> simp

@[simp] theorem supplyOn_frame (s : State) :
    (supplyOn s).now = s.now ∧ (supplyOn s).pending = s.pending ∧ (supplyOn s).pins = s.pins ∧
    (supplyOn s).lc = s.lc ∧ (supplyOn s).bi.rate = s.bi.rate ∧ (supplyOn s).bi.synced = s.bi.synced ∧
    (supplyOn s).bi.idle = s.bi.idle ∧
    (supplyOn s).bi.lanes = s.bi.lanes ∧ (supplyOn s).bi.mails = s.bi.mails ∧ (supplyOn s).bi.tx = s.bi.tx ∧
    (supplyOn s).bi.txState = s.bi.txState ∧ (supplyOn s).bi.failRun = s.bi.failRun ∧
    (supplyOn s).bi.mute = s.bi.mute ∧ (supplyOn s).bi.timerA = s.bi.timerA ∧ (supplyOn s).bi.timerB = s.bi.timerB ∧
    (supplyOn s).bi.identityCount = s.bi.identityCount ∧ (supplyOn s).bi.pulse = s.bi.pulse ∧
    (supplyOn s).bi.stats = s.bi.stats ∧ (supplyOn s).ro = s.ro ∧ (supplyOn s).ps = s.ps ∧ (supplyOn s).sm = s.sm ∧
    (supplyOn s).fc = s.fc ∧ (supplyOn s).lm = s.lm ∧ (supplyOn s).lb = s.lb ∧ (supplyOn s).lp.phase = s.lp.phase ∧
    (supplyOn s).lp.result = s.lp.result ∧ (supplyOn s).lp.sdo = s.lp.sdo ∧
    (supplyOn s).lp.lostCommands = s.lp.lostCommands ∧ (supplyOn s).lp.mask = s.lp.mask ∧
    (supplyOn s).lp.shedCauses = s.lp.shedCauses ∧ (supplyOn s).lp.raiseCauses = s.lp.raiseCauses ∧
    (supplyOn s).lp.fanCauses = s.lp.fanCauses ∧ (supplyOn s).lp.busCauses = s.lp.busCauses ∧
    (supplyOn s).lp.ejectCauses = s.lp.ejectCauses ∧ (supplyOn s).lp.laneOutcome = s.lp.laneOutcome ∧
    (supplyOn s).lp.laneSlot = s.lp.laneSlot ∧ (supplyOn s).lp.mailQueue = s.lp.mailQueue ∧
    (supplyOn s).lp.overflow = s.lp.overflow ∧ (supplyOn s).lp.box0 = s.lp.box0 ∧ (supplyOn s).lp.box1 = s.lp.box1 ∧
    (supplyOn s).lp.nextTag = s.lp.nextTag ∧ (supplyOn s).lp.lastFinal = s.lp.lastFinal := by
  generalize h : supplyOn s = t
  unfold supplyOn at h
  try dsimp only at h
  (repeat' split at h) <;> subst h <;> simp

@[simp] theorem upwardStep_frame (s : State) :
    (upwardStep s).now = s.now ∧ (upwardStep s).pending = s.pending ∧ (upwardStep s).pins = s.pins ∧
    (upwardStep s).lc = s.lc ∧ (upwardStep s).bi = s.bi ∧ (upwardStep s).ro = s.ro ∧ (upwardStep s).bu = s.bu ∧
    (upwardStep s).ps = s.ps ∧ (upwardStep s).sup = s.sup ∧ (upwardStep s).sm = s.sm ∧ (upwardStep s).lm = s.lm ∧
    (upwardStep s).lb = s.lb ∧ (upwardStep s).lp = s.lp := by
  generalize h : upwardStep s = t
  unfold upwardStep at h
  try dsimp only at h
  (repeat' split at h) <;> subst h <;> simp

@[simp] theorem beatDuty_frame (s : State) :
    (beatDuty s).now = s.now ∧ (beatDuty s).pending = s.pending ∧ (beatDuty s).pins = s.pins ∧
    (beatDuty s).lc = s.lc ∧ (beatDuty s).bi = s.bi ∧ (beatDuty s).ro = s.ro ∧ (beatDuty s).bu = s.bu ∧
    (beatDuty s).ps = s.ps ∧ (beatDuty s).sup = s.sup ∧ (beatDuty s).sm = s.sm ∧ (beatDuty s).lm = s.lm ∧
    (beatDuty s).lb = s.lb ∧ (beatDuty s).lp = s.lp := by
  generalize h : beatDuty s = t
  unfold beatDuty at h
  try dsimp only at h
  subst h; simp

@[simp] theorem ageView_frame (s : State) :
    (ageView s).now = s.now ∧ (ageView s).pending = s.pending ∧ (ageView s).pins = s.pins ∧ (ageView s).lc = s.lc ∧
    (ageView s).bi = s.bi ∧ (ageView s).ro = s.ro ∧ (ageView s).bu = s.bu ∧ (ageView s).ps = s.ps ∧
    (ageView s).sup = s.sup ∧ (ageView s).sm = s.sm ∧ (ageView s).lm = s.lm ∧ (ageView s).lb = s.lb ∧
    (ageView s).lp = s.lp := by
  generalize h : ageView s = t
  unfold ageView at h
  try dsimp only at h
  subst h; simp

@[simp] theorem fanChanged_frame (b : Bool) (s : State) :
    (fanChanged b s).now = s.now ∧ (fanChanged b s).pending = s.pending ∧ (fanChanged b s).pins = s.pins ∧
    (fanChanged b s).lc = s.lc ∧ (fanChanged b s).bi.rate = s.bi.rate ∧ (fanChanged b s).bi.synced = s.bi.synced ∧
    (fanChanged b s).bi.idle = s.bi.idle ∧
    (fanChanged b s).bi.lanes = s.bi.lanes ∧ (fanChanged b s).bi.mails = s.bi.mails ∧
    (fanChanged b s).bi.tx = s.bi.tx ∧ (fanChanged b s).bi.txState = s.bi.txState ∧
    (fanChanged b s).bi.failRun = s.bi.failRun ∧ (fanChanged b s).bi.mute = s.bi.mute ∧
    (fanChanged b s).bi.timerA = s.bi.timerA ∧ (fanChanged b s).bi.timerB = s.bi.timerB ∧
    (fanChanged b s).bi.identityCount = s.bi.identityCount ∧ (fanChanged b s).bi.pulse = s.bi.pulse ∧
    (fanChanged b s).bi.stats = s.bi.stats ∧ (fanChanged b s).ro = s.ro ∧ (fanChanged b s).ps = s.ps ∧
    (fanChanged b s).sup = s.sup ∧ (fanChanged b s).sm = s.sm ∧ (fanChanged b s).fc = s.fc ∧
    (fanChanged b s).lm = s.lm ∧ (fanChanged b s).lb = s.lb ∧ (fanChanged b s).lp.phase = s.lp.phase ∧
    (fanChanged b s).lp.result = s.lp.result ∧ (fanChanged b s).lp.sdo = s.lp.sdo ∧
    (fanChanged b s).lp.lostCommands = s.lp.lostCommands ∧ (fanChanged b s).lp.mask = s.lp.mask ∧
    (fanChanged b s).lp.powerCause = s.lp.powerCause ∧ (fanChanged b s).lp.shedCauses = s.lp.shedCauses ∧
    (fanChanged b s).lp.raiseCauses = s.lp.raiseCauses ∧ (fanChanged b s).lp.busCauses = s.lp.busCauses ∧
    (fanChanged b s).lp.ejectCauses = s.lp.ejectCauses ∧ (fanChanged b s).lp.laneOutcome = s.lp.laneOutcome ∧
    (fanChanged b s).lp.laneSlot = s.lp.laneSlot ∧ (fanChanged b s).lp.mailQueue = s.lp.mailQueue ∧
    (fanChanged b s).lp.overflow = s.lp.overflow ∧ (fanChanged b s).lp.box0 = s.lp.box0 ∧
    (fanChanged b s).lp.box1 = s.lp.box1 ∧ (fanChanged b s).lp.nextTag = s.lp.nextTag ∧
    (fanChanged b s).lp.lastFinal = s.lp.lastFinal := by
  generalize h : fanChanged b s = t
  unfold fanChanged at h
  try dsimp only at h
  subst h; simp

@[simp] theorem judgeOne_frame (k : Nat) (s : State) :
    (judgeOne k s).now = s.now ∧ (judgeOne k s).pending = s.pending ∧ (judgeOne k s).pins = s.pins ∧
    (judgeOne k s).lc = s.lc ∧ (judgeOne k s).bi.rate = s.bi.rate ∧ (judgeOne k s).bi.synced = s.bi.synced ∧
    (judgeOne k s).bi.idle = s.bi.idle ∧
    (judgeOne k s).bi.lanes = s.bi.lanes ∧ (judgeOne k s).bi.mails = s.bi.mails ∧ (judgeOne k s).bi.tx = s.bi.tx ∧
    (judgeOne k s).bi.txState = s.bi.txState ∧ (judgeOne k s).bi.failRun = s.bi.failRun ∧
    (judgeOne k s).bi.mute = s.bi.mute ∧ (judgeOne k s).bi.timerA = s.bi.timerA ∧
    (judgeOne k s).bi.timerB = s.bi.timerB ∧ (judgeOne k s).bi.identityCount = s.bi.identityCount ∧
    (judgeOne k s).bi.pulse = s.bi.pulse ∧ (judgeOne k s).bi.stats = s.bi.stats ∧ (judgeOne k s).ro = s.ro ∧
    (judgeOne k s).ps = s.ps ∧ (judgeOne k s).sup = s.sup ∧ (judgeOne k s).sm = s.sm ∧ (judgeOne k s).lm = s.lm ∧
    (judgeOne k s).lb = s.lb ∧ (judgeOne k s).lp.phase = s.lp.phase ∧ (judgeOne k s).lp.result = s.lp.result ∧
    (judgeOne k s).lp.sdo = s.lp.sdo ∧ (judgeOne k s).lp.lostCommands = s.lp.lostCommands ∧
    (judgeOne k s).lp.mask = s.lp.mask ∧ (judgeOne k s).lp.powerCause = s.lp.powerCause ∧
    (judgeOne k s).lp.shedCauses = s.lp.shedCauses ∧ (judgeOne k s).lp.raiseCauses = s.lp.raiseCauses ∧
    (judgeOne k s).lp.busCauses = s.lp.busCauses ∧ (judgeOne k s).lp.ejectCauses = s.lp.ejectCauses ∧
    (judgeOne k s).lp.laneOutcome = s.lp.laneOutcome ∧ (judgeOne k s).lp.laneSlot = s.lp.laneSlot ∧
    (judgeOne k s).lp.mailQueue = s.lp.mailQueue ∧ (judgeOne k s).lp.overflow = s.lp.overflow ∧
    (judgeOne k s).lp.box0 = s.lp.box0 ∧ (judgeOne k s).lp.box1 = s.lp.box1 ∧
    (judgeOne k s).lp.nextTag = s.lp.nextTag ∧ (judgeOne k s).lp.lastFinal = s.lp.lastFinal := by
  generalize h : judgeOne k s = t
  unfold judgeOne at h
  try dsimp only at h
  (repeat' split at h) <;> subst h <;> simp

@[simp] theorem judgeRotors_frame (ks : List Nat) (s : State) :
    (judgeRotors ks s).now = s.now ∧ (judgeRotors ks s).pending = s.pending ∧ (judgeRotors ks s).pins = s.pins ∧
    (judgeRotors ks s).lc = s.lc ∧ (judgeRotors ks s).bi.rate = s.bi.rate ∧
    (judgeRotors ks s).bi.synced = s.bi.synced ∧ (judgeRotors ks s).bi.idle = s.bi.idle ∧
    (judgeRotors ks s).bi.lanes = s.bi.lanes ∧ (judgeRotors ks s).bi.mails = s.bi.mails ∧
    (judgeRotors ks s).bi.tx = s.bi.tx ∧ (judgeRotors ks s).bi.txState = s.bi.txState ∧
    (judgeRotors ks s).bi.failRun = s.bi.failRun ∧ (judgeRotors ks s).bi.mute = s.bi.mute ∧
    (judgeRotors ks s).bi.timerA = s.bi.timerA ∧ (judgeRotors ks s).bi.timerB = s.bi.timerB ∧
    (judgeRotors ks s).bi.identityCount = s.bi.identityCount ∧ (judgeRotors ks s).bi.pulse = s.bi.pulse ∧
    (judgeRotors ks s).bi.stats = s.bi.stats ∧ (judgeRotors ks s).ro = s.ro ∧ (judgeRotors ks s).ps = s.ps ∧
    (judgeRotors ks s).sup = s.sup ∧ (judgeRotors ks s).sm = s.sm ∧ (judgeRotors ks s).lm = s.lm ∧
    (judgeRotors ks s).lb = s.lb ∧ (judgeRotors ks s).lp.phase = s.lp.phase ∧
    (judgeRotors ks s).lp.result = s.lp.result ∧ (judgeRotors ks s).lp.sdo = s.lp.sdo ∧
    (judgeRotors ks s).lp.lostCommands = s.lp.lostCommands ∧ (judgeRotors ks s).lp.mask = s.lp.mask ∧
    (judgeRotors ks s).lp.powerCause = s.lp.powerCause ∧ (judgeRotors ks s).lp.shedCauses = s.lp.shedCauses ∧
    (judgeRotors ks s).lp.raiseCauses = s.lp.raiseCauses ∧ (judgeRotors ks s).lp.busCauses = s.lp.busCauses ∧
    (judgeRotors ks s).lp.ejectCauses = s.lp.ejectCauses ∧ (judgeRotors ks s).lp.laneOutcome = s.lp.laneOutcome ∧
    (judgeRotors ks s).lp.laneSlot = s.lp.laneSlot ∧ (judgeRotors ks s).lp.mailQueue = s.lp.mailQueue ∧
    (judgeRotors ks s).lp.overflow = s.lp.overflow ∧ (judgeRotors ks s).lp.box0 = s.lp.box0 ∧
    (judgeRotors ks s).lp.box1 = s.lp.box1 ∧ (judgeRotors ks s).lp.nextTag = s.lp.nextTag ∧
    (judgeRotors ks s).lp.lastFinal = s.lp.lastFinal := by
  induction ks generalizing s with
  | nil => simp [judgeRotors]
  | cons k ks ih => unfold judgeRotors; split <;> simp [ih]

@[simp] theorem tachEdge_frame (k : Nat) (s : State) :
    (tachEdge k s).now = s.now ∧ (tachEdge k s).pending = s.pending ∧ (tachEdge k s).pins = s.pins ∧
    (tachEdge k s).lc = s.lc ∧ (tachEdge k s).bi = s.bi ∧ (tachEdge k s).ro = s.ro ∧ (tachEdge k s).bu = s.bu ∧
    (tachEdge k s).ps = s.ps ∧ (tachEdge k s).sup = s.sup ∧ (tachEdge k s).sm = s.sm ∧ (tachEdge k s).lm = s.lm ∧
    (tachEdge k s).lb = s.lb ∧ (tachEdge k s).lp = s.lp := by
  generalize h : tachEdge k s = t
  unfold tachEdge at h
  try dsimp only at h
  subst h; simp

@[simp] theorem judgeSustained_frame (s : State) :
    (judgeSustained s).now = s.now ∧ (judgeSustained s).pending = s.pending ∧ (judgeSustained s).pins = s.pins ∧
    (judgeSustained s).lc = s.lc ∧ (judgeSustained s).bi.rate = s.bi.rate ∧
    (judgeSustained s).bi.synced = s.bi.synced ∧ (judgeSustained s).bi.idle = s.bi.idle ∧
    (judgeSustained s).bi.lanes = s.bi.lanes ∧ (judgeSustained s).bi.mails = s.bi.mails ∧
    (judgeSustained s).bi.tx = s.bi.tx ∧ (judgeSustained s).bi.txState = s.bi.txState ∧
    (judgeSustained s).bi.failRun = s.bi.failRun ∧ (judgeSustained s).bi.mute = s.bi.mute ∧
    (judgeSustained s).bi.timerA = s.bi.timerA ∧ (judgeSustained s).bi.timerB = s.bi.timerB ∧
    (judgeSustained s).bi.identityCount = s.bi.identityCount ∧ (judgeSustained s).bi.pulse = s.bi.pulse ∧
    (judgeSustained s).bi.stats = s.bi.stats ∧ (judgeSustained s).ro = s.ro ∧ (judgeSustained s).ps = s.ps ∧
    (judgeSustained s).sup = s.sup ∧ (judgeSustained s).sm = s.sm ∧ (judgeSustained s).lm = s.lm ∧
    (judgeSustained s).lb = s.lb ∧ (judgeSustained s).lp.phase = s.lp.phase ∧
    (judgeSustained s).lp.result = s.lp.result ∧ (judgeSustained s).lp.sdo = s.lp.sdo ∧
    (judgeSustained s).lp.lostCommands = s.lp.lostCommands ∧ (judgeSustained s).lp.mask = s.lp.mask ∧
    (judgeSustained s).lp.powerCause = s.lp.powerCause ∧ (judgeSustained s).lp.shedCauses = s.lp.shedCauses ∧
    (judgeSustained s).lp.raiseCauses = s.lp.raiseCauses ∧ (judgeSustained s).lp.busCauses = s.lp.busCauses ∧
    (judgeSustained s).lp.ejectCauses = s.lp.ejectCauses ∧ (judgeSustained s).lp.laneOutcome = s.lp.laneOutcome ∧
    (judgeSustained s).lp.laneSlot = s.lp.laneSlot ∧ (judgeSustained s).lp.mailQueue = s.lp.mailQueue ∧
    (judgeSustained s).lp.overflow = s.lp.overflow ∧ (judgeSustained s).lp.box0 = s.lp.box0 ∧
    (judgeSustained s).lp.box1 = s.lp.box1 ∧ (judgeSustained s).lp.nextTag = s.lp.nextTag ∧
    (judgeSustained s).lp.lastFinal = s.lp.lastFinal := by
  generalize h : judgeSustained s = t
  unfold judgeSustained at h
  try dsimp only at h
  (repeat' split at h) <;> subst h <;> simp

@[simp] theorem fanBeat_frame (s : State) :
    (fanBeat s).now = s.now ∧ (fanBeat s).pending = s.pending ∧ (fanBeat s).pins = s.pins ∧ (fanBeat s).lc = s.lc ∧
    (fanBeat s).bi.rate = s.bi.rate ∧ (fanBeat s).bi.synced = s.bi.synced ∧ (fanBeat s).bi.idle = s.bi.idle ∧
    (fanBeat s).bi.lanes = s.bi.lanes ∧
    (fanBeat s).bi.mails = s.bi.mails ∧ (fanBeat s).bi.tx = s.bi.tx ∧ (fanBeat s).bi.txState = s.bi.txState ∧
    (fanBeat s).bi.failRun = s.bi.failRun ∧ (fanBeat s).bi.mute = s.bi.mute ∧ (fanBeat s).bi.timerA = s.bi.timerA ∧
    (fanBeat s).bi.timerB = s.bi.timerB ∧ (fanBeat s).bi.identityCount = s.bi.identityCount ∧
    (fanBeat s).bi.pulse = s.bi.pulse ∧ (fanBeat s).bi.stats = s.bi.stats ∧ (fanBeat s).ro = s.ro ∧
    (fanBeat s).ps = s.ps ∧ (fanBeat s).sup = s.sup ∧ (fanBeat s).sm = s.sm ∧ (fanBeat s).lm = s.lm ∧
    (fanBeat s).lb = s.lb ∧ (fanBeat s).lp.phase = s.lp.phase ∧ (fanBeat s).lp.result = s.lp.result ∧
    (fanBeat s).lp.sdo = s.lp.sdo ∧ (fanBeat s).lp.lostCommands = s.lp.lostCommands ∧ (fanBeat s).lp.mask = s.lp.mask ∧
    (fanBeat s).lp.powerCause = s.lp.powerCause ∧ (fanBeat s).lp.shedCauses = s.lp.shedCauses ∧
    (fanBeat s).lp.raiseCauses = s.lp.raiseCauses ∧ (fanBeat s).lp.busCauses = s.lp.busCauses ∧
    (fanBeat s).lp.ejectCauses = s.lp.ejectCauses ∧ (fanBeat s).lp.laneOutcome = s.lp.laneOutcome ∧
    (fanBeat s).lp.laneSlot = s.lp.laneSlot ∧ (fanBeat s).lp.mailQueue = s.lp.mailQueue ∧
    (fanBeat s).lp.overflow = s.lp.overflow ∧ (fanBeat s).lp.box0 = s.lp.box0 ∧ (fanBeat s).lp.box1 = s.lp.box1 ∧
    (fanBeat s).lp.nextTag = s.lp.nextTag ∧ (fanBeat s).lp.lastFinal = s.lp.lastFinal := by
  generalize h : fanBeat s = t
  unfold fanBeat at h
  try dsimp only at h
  (repeat' split at h) <;> subst h <;> simp

@[simp] theorem takeThermal_frame (n d : Nat) (r : Reading) (s : State) :
    (takeThermal n d r s).now = s.now ∧ (takeThermal n d r s).pending = s.pending ∧
    (takeThermal n d r s).pins = s.pins ∧ (takeThermal n d r s).lc = s.lc ∧ (takeThermal n d r s).bi = s.bi ∧
    (takeThermal n d r s).ro = s.ro ∧ (takeThermal n d r s).bu = s.bu ∧ (takeThermal n d r s).ps = s.ps ∧
    (takeThermal n d r s).sup = s.sup ∧ (takeThermal n d r s).sm = s.sm ∧ (takeThermal n d r s).lm = s.lm ∧
    (takeThermal n d r s).lb = s.lb ∧ (takeThermal n d r s).lp = s.lp := by
  generalize h : takeThermal n d r s = t
  unfold takeThermal at h
  try dsimp only at h
  subst h; simp

@[simp] theorem viewRemoved_frame (n : Nat) (s : State) :
    (viewRemoved n s).now = s.now ∧ (viewRemoved n s).pending = s.pending ∧ (viewRemoved n s).pins = s.pins ∧
    (viewRemoved n s).lc = s.lc ∧ (viewRemoved n s).bi = s.bi ∧ (viewRemoved n s).ro = s.ro ∧
    (viewRemoved n s).bu = s.bu ∧ (viewRemoved n s).ps = s.ps ∧ (viewRemoved n s).sup = s.sup ∧
    (viewRemoved n s).sm = s.sm ∧ (viewRemoved n s).lm = s.lm ∧ (viewRemoved n s).lb = s.lb ∧
    (viewRemoved n s).lp = s.lp := by
  generalize h : viewRemoved n s = t
  unfold viewRemoved at h
  try dsimp only at h
  (repeat' split at h) <;> subst h <;> simp

@[simp] theorem refreshDemand_frame (s : State) :
    (refreshDemand s).now = s.now ∧ (refreshDemand s).pending = s.pending ∧ (refreshDemand s).pins = s.pins ∧
    (refreshDemand s).lc = s.lc ∧ (refreshDemand s).bi = s.bi ∧ (refreshDemand s).ro = s.ro ∧
    (refreshDemand s).bu = s.bu ∧ (refreshDemand s).ps = s.ps ∧ (refreshDemand s).sup = s.sup ∧
    (refreshDemand s).lm = s.lm ∧ (refreshDemand s).lb = s.lb ∧ (refreshDemand s).lp = s.lp := by
  generalize h : refreshDemand s = t
  unfold refreshDemand at h
  try dsimp only at h
  (repeat' split at h) <;> subst h <;> simp

@[simp] theorem redemand_frame (k : Nat) (s : State) :
    (redemand k s).now = s.now ∧ (redemand k s).pending = s.pending ∧ (redemand k s).pins = s.pins ∧
    (redemand k s).lc = s.lc ∧ (redemand k s).bi = s.bi ∧ (redemand k s).ro = s.ro ∧ (redemand k s).bu = s.bu ∧
    (redemand k s).ps = s.ps ∧ (redemand k s).sup = s.sup ∧ (redemand k s).lm = s.lm ∧ (redemand k s).lb = s.lb ∧
    (redemand k s).lp = s.lp := by
  generalize h : redemand k s = t
  unfold redemand at h
  try dsimp only at h
  subst h; simp

@[simp] theorem thermalReports_frame (a b : TChannel) (h : Bool) (s : State) :
    (thermalReports a b h s).now = s.now ∧ (thermalReports a b h s).pending = s.pending ∧
    (thermalReports a b h s).pins = s.pins ∧ (thermalReports a b h s).lc = s.lc ∧
    (thermalReports a b h s).bi.rate = s.bi.rate ∧ (thermalReports a b h s).bi.synced = s.bi.synced ∧
    (thermalReports a b h s).bi.idle = s.bi.idle ∧
    (thermalReports a b h s).bi.mails = s.bi.mails ∧ (thermalReports a b h s).bi.tx = s.bi.tx ∧
    (thermalReports a b h s).bi.txState = s.bi.txState ∧ (thermalReports a b h s).bi.failRun = s.bi.failRun ∧
    (thermalReports a b h s).bi.mute = s.bi.mute ∧ (thermalReports a b h s).bi.timerA = s.bi.timerA ∧
    (thermalReports a b h s).bi.timerB = s.bi.timerB ∧
    (thermalReports a b h s).bi.identityCount = s.bi.identityCount ∧ (thermalReports a b h s).bi.pulse = s.bi.pulse ∧
    (thermalReports a b h s).bi.stats = s.bi.stats ∧ (thermalReports a b h s).ro = s.ro ∧
    (thermalReports a b h s).sup = s.sup ∧ (thermalReports a b h s).sm = s.sm ∧ (thermalReports a b h s).fc = s.fc ∧
    (thermalReports a b h s).lp.phase = s.lp.phase ∧ (thermalReports a b h s).lp.result = s.lp.result ∧
    (thermalReports a b h s).lp.sdo = s.lp.sdo ∧ (thermalReports a b h s).lp.lostCommands = s.lp.lostCommands ∧
    (thermalReports a b h s).lp.mask = s.lp.mask ∧ (thermalReports a b h s).lp.fanCauses = s.lp.fanCauses ∧
    (thermalReports a b h s).lp.busCauses = s.lp.busCauses ∧
    (thermalReports a b h s).lp.ejectCauses = s.lp.ejectCauses ∧
    (thermalReports a b h s).lp.laneOutcome = s.lp.laneOutcome ∧
    (thermalReports a b h s).lp.laneSlot = s.lp.laneSlot ∧ (thermalReports a b h s).lp.mailQueue = s.lp.mailQueue ∧
    (thermalReports a b h s).lp.overflow = s.lp.overflow ∧ (thermalReports a b h s).lp.box0 = s.lp.box0 ∧
    (thermalReports a b h s).lp.box1 = s.lp.box1 ∧ (thermalReports a b h s).lp.nextTag = s.lp.nextTag ∧
    (thermalReports a b h s).lp.lastFinal = s.lp.lastFinal := by
  generalize h : thermalReports a b h s = t
  unfold thermalReports at h
  try dsimp only at h
  (repeat' split at h) <;> subst h <;> simp

@[simp] theorem convertT_frame (k : Nat) (d : Option Int) (s : State) :
    (convertT k d s).now = s.now ∧ (convertT k d s).pending = s.pending ∧ (convertT k d s).pins = s.pins ∧
    (convertT k d s).lc = s.lc ∧ (convertT k d s).bi.rate = s.bi.rate ∧ (convertT k d s).bi.synced = s.bi.synced ∧
    (convertT k d s).bi.idle = s.bi.idle ∧
    (convertT k d s).bi.mails = s.bi.mails ∧ (convertT k d s).bi.tx = s.bi.tx ∧
    (convertT k d s).bi.txState = s.bi.txState ∧ (convertT k d s).bi.failRun = s.bi.failRun ∧
    (convertT k d s).bi.mute = s.bi.mute ∧ (convertT k d s).bi.timerA = s.bi.timerA ∧
    (convertT k d s).bi.timerB = s.bi.timerB ∧ (convertT k d s).bi.identityCount = s.bi.identityCount ∧
    (convertT k d s).bi.pulse = s.bi.pulse ∧ (convertT k d s).bi.stats = s.bi.stats ∧ (convertT k d s).ro = s.ro ∧
    (convertT k d s).sup = s.sup ∧ (convertT k d s).lp.phase = s.lp.phase ∧
    (convertT k d s).lp.result = s.lp.result ∧ (convertT k d s).lp.sdo = s.lp.sdo ∧
    (convertT k d s).lp.lostCommands = s.lp.lostCommands ∧ (convertT k d s).lp.mask = s.lp.mask ∧
    (convertT k d s).lp.fanCauses = s.lp.fanCauses ∧ (convertT k d s).lp.busCauses = s.lp.busCauses ∧
    (convertT k d s).lp.ejectCauses = s.lp.ejectCauses ∧ (convertT k d s).lp.laneOutcome = s.lp.laneOutcome ∧
    (convertT k d s).lp.laneSlot = s.lp.laneSlot ∧ (convertT k d s).lp.mailQueue = s.lp.mailQueue ∧
    (convertT k d s).lp.overflow = s.lp.overflow ∧ (convertT k d s).lp.box0 = s.lp.box0 ∧
    (convertT k d s).lp.box1 = s.lp.box1 ∧ (convertT k d s).lp.nextTag = s.lp.nextTag ∧
    (convertT k d s).lp.lastFinal = s.lp.lastFinal := by
  generalize h : convertT k d s = t
  unfold convertT at h
  try dsimp only at h
  (repeat' split at h) <;> subst h <;> simp

@[simp] theorem convertV_frame (k : Nat) (v : Int) (s : State) :
    (convertV k v s).now = s.now ∧ (convertV k v s).pending = s.pending ∧ (convertV k v s).pins = s.pins ∧
    (convertV k v s).lc = s.lc ∧ (convertV k v s).bi = s.bi ∧ (convertV k v s).ro = s.ro ∧
    (convertV k v s).bu = s.bu ∧ (convertV k v s).ps = s.ps ∧ (convertV k v s).sup = s.sup ∧
    (convertV k v s).fc = s.fc ∧ (convertV k v s).lm = s.lm ∧ (convertV k v s).lb = s.lb ∧
    (convertV k v s).lp.phase = s.lp.phase ∧ (convertV k v s).lp.result = s.lp.result ∧
    (convertV k v s).lp.sdo = s.lp.sdo ∧ (convertV k v s).lp.lostCommands = s.lp.lostCommands ∧
    (convertV k v s).lp.mask = s.lp.mask ∧ (convertV k v s).lp.powerCause = s.lp.powerCause ∧
    (convertV k v s).lp.shedCauses = s.lp.shedCauses ∧ (convertV k v s).lp.raiseCauses = s.lp.raiseCauses ∧
    (convertV k v s).lp.fanCauses = s.lp.fanCauses ∧ (convertV k v s).lp.busCauses = s.lp.busCauses ∧
    (convertV k v s).lp.ejectCauses = s.lp.ejectCauses ∧ (convertV k v s).lp.laneOutcome = s.lp.laneOutcome ∧
    (convertV k v s).lp.laneSlot = s.lp.laneSlot ∧ (convertV k v s).lp.mailQueue = s.lp.mailQueue ∧
    (convertV k v s).lp.overflow = s.lp.overflow ∧ (convertV k v s).lp.box0 = s.lp.box0 ∧
    (convertV k v s).lp.box1 = s.lp.box1 ∧ (convertV k v s).lp.nextTag = s.lp.nextTag ∧
    (convertV k v s).lp.lastFinal = s.lp.lastFinal := by
  generalize h : convertV k v s = t
  unfold convertV at h
  try dsimp only at h
  (repeat' split at h) <;> subst h <;> simp

@[simp] theorem supplyConversion_frame (k : Nat) (s : State) :
    (supplyConversion k s).now = s.now ∧ (supplyConversion k s).pending = s.pending ∧
    (supplyConversion k s).pins = s.pins ∧ (supplyConversion k s).lc = s.lc ∧
    (supplyConversion k s).bi.rate = s.bi.rate ∧ (supplyConversion k s).bi.synced = s.bi.synced ∧
    (supplyConversion k s).bi.lanes = s.bi.lanes ∧
    (supplyConversion k s).bi.mails = s.bi.mails ∧ (supplyConversion k s).bi.txState = s.bi.txState ∧
    (supplyConversion k s).bi.failRun = s.bi.failRun ∧ (supplyConversion k s).bi.mute = s.bi.mute ∧
    (supplyConversion k s).bi.timerA = s.bi.timerA ∧ (supplyConversion k s).bi.timerB = s.bi.timerB ∧
    (supplyConversion k s).bi.identityCount = s.bi.identityCount ∧ (supplyConversion k s).bi.stats = s.bi.stats ∧
    (supplyConversion k s).ro = s.ro ∧ (supplyConversion k s).ps = s.ps ∧ (supplyConversion k s).sm = s.sm ∧
    (supplyConversion k s).fc = s.fc ∧ (supplyConversion k s).lm = s.lm ∧ (supplyConversion k s).lb = s.lb ∧
    (supplyConversion k s).lp.phase = s.lp.phase ∧ (supplyConversion k s).lp.result = s.lp.result ∧
    (supplyConversion k s).lp.sdo = s.lp.sdo ∧ (supplyConversion k s).lp.lostCommands = s.lp.lostCommands ∧
    (supplyConversion k s).lp.mask = s.lp.mask ∧ (supplyConversion k s).lp.shedCauses = s.lp.shedCauses ∧
    (supplyConversion k s).lp.raiseCauses = s.lp.raiseCauses ∧ (supplyConversion k s).lp.fanCauses = s.lp.fanCauses ∧
    (supplyConversion k s).lp.busCauses = s.lp.busCauses ∧ (supplyConversion k s).lp.ejectCauses = s.lp.ejectCauses ∧
    (supplyConversion k s).lp.laneOutcome = s.lp.laneOutcome ∧ (supplyConversion k s).lp.laneSlot = s.lp.laneSlot ∧
    (supplyConversion k s).lp.mailQueue = s.lp.mailQueue ∧ (supplyConversion k s).lp.overflow = s.lp.overflow ∧
    (supplyConversion k s).lp.box0 = s.lp.box0 ∧ (supplyConversion k s).lp.box1 = s.lp.box1 ∧
    (supplyConversion k s).lp.nextTag = s.lp.nextTag ∧ (supplyConversion k s).lp.lastFinal = s.lp.lastFinal := by
  generalize h : supplyConversion k s = t
  unfold supplyConversion at h
  try dsimp only at h
  (repeat' split at h) <;> subst h <;> simp

@[simp] theorem convert_frame (d : Option Int) (v : Int) (s : State) :
    (convert d v s).now = s.now ∧ (convert d v s).pending = s.pending ∧ (convert d v s).pins = s.pins ∧
    (convert d v s).lc = s.lc ∧ (convert d v s).bi.rate = s.bi.rate ∧ (convert d v s).bi.synced = s.bi.synced ∧
    (convert d v s).bi.mails = s.bi.mails ∧
    (convert d v s).bi.txState = s.bi.txState ∧ (convert d v s).bi.failRun = s.bi.failRun ∧
    (convert d v s).bi.mute = s.bi.mute ∧ (convert d v s).bi.timerA = s.bi.timerA ∧
    (convert d v s).bi.timerB = s.bi.timerB ∧ (convert d v s).bi.identityCount = s.bi.identityCount ∧
    (convert d v s).bi.stats = s.bi.stats ∧ (convert d v s).ro = s.ro ∧ (convert d v s).lp.phase = s.lp.phase ∧
    (convert d v s).lp.result = s.lp.result ∧ (convert d v s).lp.sdo = s.lp.sdo ∧
    (convert d v s).lp.lostCommands = s.lp.lostCommands ∧ (convert d v s).lp.mask = s.lp.mask ∧
    (convert d v s).lp.fanCauses = s.lp.fanCauses ∧ (convert d v s).lp.busCauses = s.lp.busCauses ∧
    (convert d v s).lp.ejectCauses = s.lp.ejectCauses ∧ (convert d v s).lp.laneOutcome = s.lp.laneOutcome ∧
    (convert d v s).lp.laneSlot = s.lp.laneSlot ∧ (convert d v s).lp.mailQueue = s.lp.mailQueue ∧
    (convert d v s).lp.overflow = s.lp.overflow ∧ (convert d v s).lp.box0 = s.lp.box0 ∧
    (convert d v s).lp.box1 = s.lp.box1 ∧ (convert d v s).lp.nextTag = s.lp.nextTag ∧
    (convert d v s).lp.lastFinal = s.lp.lastFinal := by
  generalize h : convert d v s = t
  unfold convert at h
  try dsimp only at h
  (repeat' split at h) <;> subst h <;> simp

@[simp] theorem setTLimits_frame (k : Nat) (a b c d : Int) (s : State) :
    (setTLimits k a b c d s).now = s.now ∧ (setTLimits k a b c d s).pending = s.pending ∧
    (setTLimits k a b c d s).pins = s.pins ∧ (setTLimits k a b c d s).lc = s.lc ∧
    (setTLimits k a b c d s).bi = s.bi ∧ (setTLimits k a b c d s).ro = s.ro ∧ (setTLimits k a b c d s).bu = s.bu ∧
    (setTLimits k a b c d s).ps = s.ps ∧ (setTLimits k a b c d s).sup = s.sup ∧ (setTLimits k a b c d s).fc = s.fc ∧
    (setTLimits k a b c d s).lm = s.lm ∧ (setTLimits k a b c d s).lb = s.lb ∧ (setTLimits k a b c d s).lp = s.lp := by
  generalize h : setTLimits k a b c d s = t
  unfold setTLimits at h
  try dsimp only at h
  subst h; simp

@[simp] theorem setVLimits_frame (k : Nat) (a b : Int) (s : State) :
    (setVLimits k a b s).now = s.now ∧ (setVLimits k a b s).pending = s.pending ∧
    (setVLimits k a b s).pins = s.pins ∧ (setVLimits k a b s).lc = s.lc ∧ (setVLimits k a b s).bi = s.bi ∧
    (setVLimits k a b s).ro = s.ro ∧ (setVLimits k a b s).bu = s.bu ∧ (setVLimits k a b s).ps = s.ps ∧
    (setVLimits k a b s).sup = s.sup ∧ (setVLimits k a b s).fc = s.fc ∧ (setVLimits k a b s).lm = s.lm ∧
    (setVLimits k a b s).lb = s.lb ∧ (setVLimits k a b s).lp = s.lp := by
  generalize h : setVLimits k a b s = t
  unfold setVLimits at h
  try dsimp only at h
  subst h; simp

@[simp] theorem clearLatched_frame (s : State) :
    (clearLatched s).now = s.now ∧ (clearLatched s).pending = s.pending ∧ (clearLatched s).pins = s.pins ∧
    (clearLatched s).lc = s.lc ∧ (clearLatched s).bi = s.bi ∧ (clearLatched s).ro = s.ro ∧
    (clearLatched s).bu = s.bu ∧ (clearLatched s).ps = s.ps ∧ (clearLatched s).sup = s.sup ∧
    (clearLatched s).fc = s.fc ∧ (clearLatched s).lm = s.lm ∧ (clearLatched s).lb = s.lb ∧
    (clearLatched s).lp = s.lp := by
  generalize h : clearLatched s = t
  unfold clearLatched at h
  try dsimp only at h
  subst h; simp

end Sys2Proof.Machine
end

