-- ==== Sys2Proof/Laws/Roster.lean ====
section
/-! SUPPORT. What the blade's lane records, the roster and the delivery of a frame leave unchanged. -/

namespace Sys2Proof.Machine

@[simp] theorem askLanes_frame (n m : Nat) (s : State) :
    (askLanes n m s).now = s.now ∧ (askLanes n m s).pending = s.pending ∧ (askLanes n m s).pins = s.pins ∧
    (askLanes n m s).lc = s.lc ∧ (askLanes n m s).bi.rate = s.bi.rate ∧ (askLanes n m s).bi.synced = s.bi.synced ∧
    (askLanes n m s).bi.idle = s.bi.idle ∧
    (askLanes n m s).bi.kinds = s.bi.kinds ∧ (askLanes n m s).bi.mails = s.bi.mails ∧
    (askLanes n m s).bi.tx = s.bi.tx ∧ (askLanes n m s).bi.txState = s.bi.txState ∧
    (askLanes n m s).bi.failRun = s.bi.failRun ∧ (askLanes n m s).bi.mute = s.bi.mute ∧
    (askLanes n m s).bi.timerA = s.bi.timerA ∧ (askLanes n m s).bi.timerB = s.bi.timerB ∧
    (askLanes n m s).bi.identityCount = s.bi.identityCount ∧ (askLanes n m s).bi.pulse = s.bi.pulse ∧
    (askLanes n m s).bi.stats = s.bi.stats ∧ (askLanes n m s).ro = s.ro ∧ (askLanes n m s).bu = s.bu ∧
    (askLanes n m s).ps = s.ps ∧ (askLanes n m s).sup = s.sup ∧ (askLanes n m s).sm = s.sm ∧
    (askLanes n m s).fc = s.fc ∧ (askLanes n m s).lm = s.lm ∧ (askLanes n m s).lp = s.lp := by
  generalize h : askLanes n m s = t
  unfold askLanes at h
  try dsimp only at h
  subst h; simp

@[simp] theorem giveLanes_frame (n : Nat) (s : State) :
    (giveLanes n s).now = s.now ∧ (giveLanes n s).pending = s.pending ∧ (giveLanes n s).pins = s.pins ∧
    (giveLanes n s).lc = s.lc ∧ (giveLanes n s).bi.rate = s.bi.rate ∧ (giveLanes n s).bi.synced = s.bi.synced ∧
    (giveLanes n s).bi.idle = s.bi.idle ∧
    (giveLanes n s).bi.kinds = s.bi.kinds ∧ (giveLanes n s).bi.mails = s.bi.mails ∧ (giveLanes n s).bi.tx = s.bi.tx ∧
    (giveLanes n s).bi.txState = s.bi.txState ∧ (giveLanes n s).bi.failRun = s.bi.failRun ∧
    (giveLanes n s).bi.mute = s.bi.mute ∧ (giveLanes n s).bi.timerA = s.bi.timerA ∧
    (giveLanes n s).bi.timerB = s.bi.timerB ∧ (giveLanes n s).bi.identityCount = s.bi.identityCount ∧
    (giveLanes n s).bi.pulse = s.bi.pulse ∧ (giveLanes n s).bi.stats = s.bi.stats ∧ (giveLanes n s).ro = s.ro ∧
    (giveLanes n s).bu = s.bu ∧ (giveLanes n s).ps = s.ps ∧ (giveLanes n s).sup = s.sup ∧ (giveLanes n s).sm = s.sm ∧
    (giveLanes n s).fc = s.fc ∧ (giveLanes n s).lm = s.lm ∧ (giveLanes n s).lp = s.lp := by
  generalize h : giveLanes n s = t
  unfold giveLanes at h
  try dsimp only at h
  (repeat' split at h) <;> subst h <;> simp

@[simp] theorem lateGrant_frame (n : Nat) (s : State) :
    (lateGrant n s).now = s.now ∧ (lateGrant n s).pending = s.pending ∧ (lateGrant n s).pins = s.pins ∧
    (lateGrant n s).lc = s.lc ∧ (lateGrant n s).bi.rate = s.bi.rate ∧ (lateGrant n s).bi.synced = s.bi.synced ∧
    (lateGrant n s).bi.idle = s.bi.idle ∧
    (lateGrant n s).bi.kinds = s.bi.kinds ∧ (lateGrant n s).bi.mails = s.bi.mails ∧ (lateGrant n s).bi.tx = s.bi.tx ∧
    (lateGrant n s).bi.txState = s.bi.txState ∧ (lateGrant n s).bi.failRun = s.bi.failRun ∧
    (lateGrant n s).bi.mute = s.bi.mute ∧ (lateGrant n s).bi.timerA = s.bi.timerA ∧
    (lateGrant n s).bi.timerB = s.bi.timerB ∧ (lateGrant n s).bi.identityCount = s.bi.identityCount ∧
    (lateGrant n s).bi.pulse = s.bi.pulse ∧ (lateGrant n s).bi.stats = s.bi.stats ∧ (lateGrant n s).ro = s.ro ∧
    (lateGrant n s).bu = s.bu ∧ (lateGrant n s).ps = s.ps ∧ (lateGrant n s).sup = s.sup ∧ (lateGrant n s).sm = s.sm ∧
    (lateGrant n s).fc = s.fc ∧ (lateGrant n s).lm = s.lm ∧ (lateGrant n s).lp.phase = s.lp.phase ∧
    (lateGrant n s).lp.result = s.lp.result ∧ (lateGrant n s).lp.sdo = s.lp.sdo ∧
    (lateGrant n s).lp.lostCommands = s.lp.lostCommands ∧ (lateGrant n s).lp.mask = s.lp.mask ∧
    (lateGrant n s).lp.powerCause = s.lp.powerCause ∧ (lateGrant n s).lp.shedCauses = s.lp.shedCauses ∧
    (lateGrant n s).lp.raiseCauses = s.lp.raiseCauses ∧ (lateGrant n s).lp.fanCauses = s.lp.fanCauses ∧
    (lateGrant n s).lp.busCauses = s.lp.busCauses ∧ (lateGrant n s).lp.ejectCauses = s.lp.ejectCauses ∧
    (lateGrant n s).lp.mailQueue = s.lp.mailQueue ∧ (lateGrant n s).lp.overflow = s.lp.overflow ∧
    (lateGrant n s).lp.box0 = s.lp.box0 ∧ (lateGrant n s).lp.box1 = s.lp.box1 ∧
    (lateGrant n s).lp.nextTag = s.lp.nextTag ∧ (lateGrant n s).lp.lastFinal = s.lp.lastFinal := by
  generalize h : lateGrant n s = t
  unfold lateGrant at h
  try dsimp only at h
  (repeat' split at h) <;> subst h <;> simp

@[simp] theorem closeRequest_frame (n : Nat) (r : LaneRecord) (a : Answer) (h : Half) (s : State) :
    (closeRequest n r a h s).now = s.now ∧ (closeRequest n r a h s).pending = s.pending ∧
    (closeRequest n r a h s).pins = s.pins ∧ (closeRequest n r a h s).lc = s.lc ∧
    (closeRequest n r a h s).bi = s.bi ∧ (closeRequest n r a h s).ro = s.ro ∧ (closeRequest n r a h s).bu = s.bu ∧
    (closeRequest n r a h s).ps = s.ps ∧ (closeRequest n r a h s).sup = s.sup ∧ (closeRequest n r a h s).sm = s.sm ∧
    (closeRequest n r a h s).fc = s.fc ∧ (closeRequest n r a h s).lm = s.lm ∧
    (closeRequest n r a h s).lp.phase = s.lp.phase ∧ (closeRequest n r a h s).lp.result = s.lp.result ∧
    (closeRequest n r a h s).lp.sdo = s.lp.sdo ∧ (closeRequest n r a h s).lp.lostCommands = s.lp.lostCommands ∧
    (closeRequest n r a h s).lp.mask = s.lp.mask ∧ (closeRequest n r a h s).lp.powerCause = s.lp.powerCause ∧
    (closeRequest n r a h s).lp.shedCauses = s.lp.shedCauses ∧
    (closeRequest n r a h s).lp.raiseCauses = s.lp.raiseCauses ∧
    (closeRequest n r a h s).lp.fanCauses = s.lp.fanCauses ∧ (closeRequest n r a h s).lp.busCauses = s.lp.busCauses ∧
    (closeRequest n r a h s).lp.ejectCauses = s.lp.ejectCauses ∧
    (closeRequest n r a h s).lp.mailQueue = s.lp.mailQueue ∧ (closeRequest n r a h s).lp.overflow = s.lp.overflow ∧
    (closeRequest n r a h s).lp.box0 = s.lp.box0 ∧ (closeRequest n r a h s).lp.box1 = s.lp.box1 ∧
    (closeRequest n r a h s).lp.nextTag = s.lp.nextTag ∧ (closeRequest n r a h s).lp.lastFinal = s.lp.lastFinal := by
  generalize h : closeRequest n r a h s = t
  unfold closeRequest at h
  try dsimp only at h
  subst h; simp

@[simp] theorem takeGrant_frame (n : Nat) (a : Answer) (h : Half) (s : State) :
    (takeGrant n a h s).now = s.now ∧ (takeGrant n a h s).pending = s.pending ∧ (takeGrant n a h s).pins = s.pins ∧
    (takeGrant n a h s).lc = s.lc ∧ (takeGrant n a h s).bi.rate = s.bi.rate ∧
    (takeGrant n a h s).bi.synced = s.bi.synced ∧
    (takeGrant n a h s).bi.idle = s.bi.idle ∧ (takeGrant n a h s).bi.kinds = s.bi.kinds ∧
    (takeGrant n a h s).bi.mails = s.bi.mails ∧ (takeGrant n a h s).bi.tx = s.bi.tx ∧
    (takeGrant n a h s).bi.txState = s.bi.txState ∧ (takeGrant n a h s).bi.failRun = s.bi.failRun ∧
    (takeGrant n a h s).bi.mute = s.bi.mute ∧ (takeGrant n a h s).bi.timerA = s.bi.timerA ∧
    (takeGrant n a h s).bi.timerB = s.bi.timerB ∧ (takeGrant n a h s).bi.identityCount = s.bi.identityCount ∧
    (takeGrant n a h s).bi.pulse = s.bi.pulse ∧ (takeGrant n a h s).bi.stats = s.bi.stats ∧
    (takeGrant n a h s).ro = s.ro ∧ (takeGrant n a h s).bu = s.bu ∧ (takeGrant n a h s).ps = s.ps ∧
    (takeGrant n a h s).sup = s.sup ∧ (takeGrant n a h s).sm = s.sm ∧ (takeGrant n a h s).fc = s.fc ∧
    (takeGrant n a h s).lm = s.lm ∧ (takeGrant n a h s).lp.phase = s.lp.phase ∧
    (takeGrant n a h s).lp.result = s.lp.result ∧ (takeGrant n a h s).lp.sdo = s.lp.sdo ∧
    (takeGrant n a h s).lp.lostCommands = s.lp.lostCommands ∧ (takeGrant n a h s).lp.mask = s.lp.mask ∧
    (takeGrant n a h s).lp.powerCause = s.lp.powerCause ∧ (takeGrant n a h s).lp.shedCauses = s.lp.shedCauses ∧
    (takeGrant n a h s).lp.raiseCauses = s.lp.raiseCauses ∧ (takeGrant n a h s).lp.fanCauses = s.lp.fanCauses ∧
    (takeGrant n a h s).lp.busCauses = s.lp.busCauses ∧ (takeGrant n a h s).lp.ejectCauses = s.lp.ejectCauses ∧
    (takeGrant n a h s).lp.mailQueue = s.lp.mailQueue ∧ (takeGrant n a h s).lp.overflow = s.lp.overflow ∧
    (takeGrant n a h s).lp.box0 = s.lp.box0 ∧ (takeGrant n a h s).lp.box1 = s.lp.box1 ∧
    (takeGrant n a h s).lp.nextTag = s.lp.nextTag ∧ (takeGrant n a h s).lp.lastFinal = s.lp.lastFinal := by
  generalize h : takeGrant n a h s = t
  unfold takeGrant at h
  try dsimp only at h
  (repeat' split at h) <;> subst h <;> simp

@[simp] theorem repostRequests_frame (us : List Nat) (s : State) :
    (repostRequests us s).now = s.now ∧ (repostRequests us s).pending = s.pending ∧
    (repostRequests us s).pins = s.pins ∧ (repostRequests us s).lc = s.lc ∧
    (repostRequests us s).bi.rate = s.bi.rate ∧ (repostRequests us s).bi.synced = s.bi.synced ∧
    (repostRequests us s).bi.idle = s.bi.idle ∧
    (repostRequests us s).bi.kinds = s.bi.kinds ∧ (repostRequests us s).bi.mails = s.bi.mails ∧
    (repostRequests us s).bi.tx = s.bi.tx ∧ (repostRequests us s).bi.txState = s.bi.txState ∧
    (repostRequests us s).bi.failRun = s.bi.failRun ∧ (repostRequests us s).bi.mute = s.bi.mute ∧
    (repostRequests us s).bi.timerA = s.bi.timerA ∧ (repostRequests us s).bi.timerB = s.bi.timerB ∧
    (repostRequests us s).bi.identityCount = s.bi.identityCount ∧ (repostRequests us s).bi.pulse = s.bi.pulse ∧
    (repostRequests us s).bi.stats = s.bi.stats ∧ (repostRequests us s).ro = s.ro ∧ (repostRequests us s).bu = s.bu ∧
    (repostRequests us s).ps = s.ps ∧ (repostRequests us s).sup = s.sup ∧ (repostRequests us s).sm = s.sm ∧
    (repostRequests us s).fc = s.fc ∧ (repostRequests us s).lm = s.lm ∧ (repostRequests us s).lp = s.lp := by
  induction us generalizing s with
  | nil => simp [repostRequests]
  | cons u us ih => unfold repostRequests; (repeat' split) <;> simp [ih]

@[simp] theorem replyTimeout_frame (n : Nat) (s : State) :
    (replyTimeout n s).now = s.now ∧ (replyTimeout n s).pending = s.pending ∧ (replyTimeout n s).pins = s.pins ∧
    (replyTimeout n s).lc = s.lc ∧ (replyTimeout n s).bi.rate = s.bi.rate ∧
    (replyTimeout n s).bi.synced = s.bi.synced ∧ (replyTimeout n s).bi.idle = s.bi.idle ∧
    (replyTimeout n s).bi.kinds = s.bi.kinds ∧ (replyTimeout n s).bi.mails = s.bi.mails ∧
    (replyTimeout n s).bi.tx = s.bi.tx ∧ (replyTimeout n s).bi.txState = s.bi.txState ∧
    (replyTimeout n s).bi.failRun = s.bi.failRun ∧ (replyTimeout n s).bi.mute = s.bi.mute ∧
    (replyTimeout n s).bi.timerA = s.bi.timerA ∧ (replyTimeout n s).bi.timerB = s.bi.timerB ∧
    (replyTimeout n s).bi.identityCount = s.bi.identityCount ∧ (replyTimeout n s).bi.pulse = s.bi.pulse ∧
    (replyTimeout n s).bi.stats = s.bi.stats ∧ (replyTimeout n s).ro = s.ro ∧ (replyTimeout n s).bu = s.bu ∧
    (replyTimeout n s).ps = s.ps ∧ (replyTimeout n s).sup = s.sup ∧ (replyTimeout n s).sm = s.sm ∧
    (replyTimeout n s).fc = s.fc ∧ (replyTimeout n s).lm = s.lm ∧ (replyTimeout n s).lp.phase = s.lp.phase ∧
    (replyTimeout n s).lp.result = s.lp.result ∧ (replyTimeout n s).lp.sdo = s.lp.sdo ∧
    (replyTimeout n s).lp.lostCommands = s.lp.lostCommands ∧ (replyTimeout n s).lp.mask = s.lp.mask ∧
    (replyTimeout n s).lp.powerCause = s.lp.powerCause ∧ (replyTimeout n s).lp.shedCauses = s.lp.shedCauses ∧
    (replyTimeout n s).lp.raiseCauses = s.lp.raiseCauses ∧ (replyTimeout n s).lp.fanCauses = s.lp.fanCauses ∧
    (replyTimeout n s).lp.busCauses = s.lp.busCauses ∧ (replyTimeout n s).lp.ejectCauses = s.lp.ejectCauses ∧
    (replyTimeout n s).lp.mailQueue = s.lp.mailQueue ∧ (replyTimeout n s).lp.overflow = s.lp.overflow ∧
    (replyTimeout n s).lp.box0 = s.lp.box0 ∧ (replyTimeout n s).lp.box1 = s.lp.box1 ∧
    (replyTimeout n s).lp.nextTag = s.lp.nextTag ∧ (replyTimeout n s).lp.lastFinal = s.lp.lastFinal := by
  generalize h : replyTimeout n s = t
  unfold replyTimeout at h
  try dsimp only at h
  (repeat' split at h) <;> subst h <;> simp

@[simp] theorem addChange_frame (k : ChangeKind) (n : Nat) (e : RosterEntry) (s : State) :
    (addChange k n e s).now = s.now ∧ (addChange k n e s).pending = s.pending ∧ (addChange k n e s).pins = s.pins ∧
    (addChange k n e s).lc = s.lc ∧ (addChange k n e s).bi = s.bi ∧ (addChange k n e s).bu = s.bu ∧
    (addChange k n e s).ps = s.ps ∧ (addChange k n e s).sup = s.sup ∧ (addChange k n e s).sm = s.sm ∧
    (addChange k n e s).fc = s.fc ∧ (addChange k n e s).lm = s.lm ∧ (addChange k n e s).lb = s.lb ∧
    (addChange k n e s).lp.phase = s.lp.phase ∧ (addChange k n e s).lp.result = s.lp.result ∧
    (addChange k n e s).lp.sdo = s.lp.sdo ∧ (addChange k n e s).lp.lostCommands = s.lp.lostCommands ∧
    (addChange k n e s).lp.mask = s.lp.mask ∧ (addChange k n e s).lp.powerCause = s.lp.powerCause ∧
    (addChange k n e s).lp.shedCauses = s.lp.shedCauses ∧ (addChange k n e s).lp.raiseCauses = s.lp.raiseCauses ∧
    (addChange k n e s).lp.fanCauses = s.lp.fanCauses ∧ (addChange k n e s).lp.busCauses = s.lp.busCauses ∧
    (addChange k n e s).lp.ejectCauses = s.lp.ejectCauses ∧ (addChange k n e s).lp.laneOutcome = s.lp.laneOutcome ∧
    (addChange k n e s).lp.laneSlot = s.lp.laneSlot ∧ (addChange k n e s).lp.mailQueue = s.lp.mailQueue ∧
    (addChange k n e s).lp.overflow = s.lp.overflow ∧ (addChange k n e s).lp.box0 = s.lp.box0 ∧
    (addChange k n e s).lp.box1 = s.lp.box1 ∧ (addChange k n e s).lp.nextTag = s.lp.nextTag ∧
    (addChange k n e s).lp.lastFinal = s.lp.lastFinal := by
  generalize h : addChange k n e s = t
  unfold addChange at h
  try dsimp only at h
  (repeat' split at h) <;> subst h <;> simp

@[simp] theorem budgetRemoved_frame (n : Nat) (s : State) :
    (budgetRemoved n s).now = s.now ∧ (budgetRemoved n s).pending = s.pending ∧ (budgetRemoved n s).pins = s.pins ∧
    (budgetRemoved n s).lc = s.lc ∧ (budgetRemoved n s).bi.rate = s.bi.rate ∧
    (budgetRemoved n s).bi.synced = s.bi.synced ∧
    (budgetRemoved n s).bi.idle = s.bi.idle ∧ (budgetRemoved n s).bi.mails = s.bi.mails ∧
    (budgetRemoved n s).bi.tx = s.bi.tx ∧ (budgetRemoved n s).bi.txState = s.bi.txState ∧
    (budgetRemoved n s).bi.failRun = s.bi.failRun ∧ (budgetRemoved n s).bi.mute = s.bi.mute ∧
    (budgetRemoved n s).bi.timerA = s.bi.timerA ∧ (budgetRemoved n s).bi.timerB = s.bi.timerB ∧
    (budgetRemoved n s).bi.identityCount = s.bi.identityCount ∧ (budgetRemoved n s).bi.pulse = s.bi.pulse ∧
    (budgetRemoved n s).bi.stats = s.bi.stats ∧ (budgetRemoved n s).ro = s.ro ∧ (budgetRemoved n s).sup = s.sup ∧
    (budgetRemoved n s).sm = s.sm ∧ (budgetRemoved n s).fc = s.fc ∧ (budgetRemoved n s).lp.phase = s.lp.phase ∧
    (budgetRemoved n s).lp.result = s.lp.result ∧ (budgetRemoved n s).lp.sdo = s.lp.sdo ∧
    (budgetRemoved n s).lp.lostCommands = s.lp.lostCommands ∧ (budgetRemoved n s).lp.mask = s.lp.mask ∧
    (budgetRemoved n s).lp.fanCauses = s.lp.fanCauses ∧ (budgetRemoved n s).lp.busCauses = s.lp.busCauses ∧
    (budgetRemoved n s).lp.ejectCauses = s.lp.ejectCauses ∧ (budgetRemoved n s).lp.laneOutcome = s.lp.laneOutcome ∧
    (budgetRemoved n s).lp.laneSlot = s.lp.laneSlot ∧ (budgetRemoved n s).lp.mailQueue = s.lp.mailQueue ∧
    (budgetRemoved n s).lp.overflow = s.lp.overflow ∧ (budgetRemoved n s).lp.box0 = s.lp.box0 ∧
    (budgetRemoved n s).lp.box1 = s.lp.box1 ∧ (budgetRemoved n s).lp.nextTag = s.lp.nextTag ∧
    (budgetRemoved n s).lp.lastFinal = s.lp.lastFinal := by
  generalize h : budgetRemoved n s = t
  unfold budgetRemoved at h
  try dsimp only at h
  subst h; simp

@[simp] theorem lanesReported_frame (n : Nat) (s : State) :
    (lanesReported n s).now = s.now ∧ (lanesReported n s).pending = s.pending ∧ (lanesReported n s).pins = s.pins ∧
    (lanesReported n s).lc = s.lc ∧ (lanesReported n s).bi.rate = s.bi.rate ∧
    (lanesReported n s).bi.synced = s.bi.synced ∧
    (lanesReported n s).bi.idle = s.bi.idle ∧ (lanesReported n s).bi.mails = s.bi.mails ∧
    (lanesReported n s).bi.tx = s.bi.tx ∧ (lanesReported n s).bi.txState = s.bi.txState ∧
    (lanesReported n s).bi.failRun = s.bi.failRun ∧ (lanesReported n s).bi.mute = s.bi.mute ∧
    (lanesReported n s).bi.timerA = s.bi.timerA ∧ (lanesReported n s).bi.timerB = s.bi.timerB ∧
    (lanesReported n s).bi.identityCount = s.bi.identityCount ∧ (lanesReported n s).bi.pulse = s.bi.pulse ∧
    (lanesReported n s).bi.stats = s.bi.stats ∧ (lanesReported n s).ro = s.ro ∧ (lanesReported n s).sup = s.sup ∧
    (lanesReported n s).sm = s.sm ∧ (lanesReported n s).fc = s.fc ∧ (lanesReported n s).lp.phase = s.lp.phase ∧
    (lanesReported n s).lp.result = s.lp.result ∧ (lanesReported n s).lp.sdo = s.lp.sdo ∧
    (lanesReported n s).lp.lostCommands = s.lp.lostCommands ∧ (lanesReported n s).lp.mask = s.lp.mask ∧
    (lanesReported n s).lp.fanCauses = s.lp.fanCauses ∧ (lanesReported n s).lp.busCauses = s.lp.busCauses ∧
    (lanesReported n s).lp.ejectCauses = s.lp.ejectCauses ∧ (lanesReported n s).lp.laneOutcome = s.lp.laneOutcome ∧
    (lanesReported n s).lp.laneSlot = s.lp.laneSlot ∧ (lanesReported n s).lp.mailQueue = s.lp.mailQueue ∧
    (lanesReported n s).lp.overflow = s.lp.overflow ∧ (lanesReported n s).lp.box0 = s.lp.box0 ∧
    (lanesReported n s).lp.box1 = s.lp.box1 ∧ (lanesReported n s).lp.nextTag = s.lp.nextTag ∧
    (lanesReported n s).lp.lastFinal = s.lp.lastFinal := by
  generalize h : lanesReported n s = t
  unfold lanesReported at h
  try dsimp only at h
  (repeat' split at h) <;> subst h <;> simp

@[simp] theorem removalReport_frame (n : Nat) (s : State) :
    (removalReport n s).now = s.now ∧ (removalReport n s).pending = s.pending ∧ (removalReport n s).pins = s.pins ∧
    (removalReport n s).lc = s.lc ∧ (removalReport n s).bi.rate = s.bi.rate ∧
    (removalReport n s).bi.synced = s.bi.synced ∧
    (removalReport n s).bi.idle = s.bi.idle ∧ (removalReport n s).bi.mails = s.bi.mails ∧
    (removalReport n s).bi.tx = s.bi.tx ∧ (removalReport n s).bi.txState = s.bi.txState ∧
    (removalReport n s).bi.failRun = s.bi.failRun ∧ (removalReport n s).bi.mute = s.bi.mute ∧
    (removalReport n s).bi.timerA = s.bi.timerA ∧ (removalReport n s).bi.timerB = s.bi.timerB ∧
    (removalReport n s).bi.identityCount = s.bi.identityCount ∧ (removalReport n s).bi.pulse = s.bi.pulse ∧
    (removalReport n s).bi.stats = s.bi.stats ∧ (removalReport n s).ro = s.ro ∧ (removalReport n s).sup = s.sup ∧
    (removalReport n s).sm = s.sm ∧ (removalReport n s).lp.phase = s.lp.phase ∧
    (removalReport n s).lp.result = s.lp.result ∧ (removalReport n s).lp.sdo = s.lp.sdo ∧
    (removalReport n s).lp.lostCommands = s.lp.lostCommands ∧ (removalReport n s).lp.mask = s.lp.mask ∧
    (removalReport n s).lp.fanCauses = s.lp.fanCauses ∧ (removalReport n s).lp.busCauses = s.lp.busCauses ∧
    (removalReport n s).lp.ejectCauses = s.lp.ejectCauses ∧ (removalReport n s).lp.laneOutcome = s.lp.laneOutcome ∧
    (removalReport n s).lp.laneSlot = s.lp.laneSlot ∧ (removalReport n s).lp.mailQueue = s.lp.mailQueue ∧
    (removalReport n s).lp.overflow = s.lp.overflow ∧ (removalReport n s).lp.box0 = s.lp.box0 ∧
    (removalReport n s).lp.box1 = s.lp.box1 ∧ (removalReport n s).lp.nextTag = s.lp.nextTag ∧
    (removalReport n s).lp.lastFinal = s.lp.lastFinal := by
  generalize h : removalReport n s = t
  unfold removalReport at h
  try dsimp only at h
  (repeat' split at h) <;> subst h <;> simp

@[simp] theorem removeEntry_frame (k : ChangeKind) (n : Nat) (e : RosterEntry) (s : State) :
    (removeEntry k n e s).now = s.now ∧ (removeEntry k n e s).pending = s.pending ∧
    (removeEntry k n e s).pins = s.pins ∧ (removeEntry k n e s).lc = s.lc ∧
    (removeEntry k n e s).bi.rate = s.bi.rate ∧ (removeEntry k n e s).bi.synced = s.bi.synced ∧
    (removeEntry k n e s).bi.idle = s.bi.idle ∧
    (removeEntry k n e s).bi.mails = s.bi.mails ∧ (removeEntry k n e s).bi.tx = s.bi.tx ∧
    (removeEntry k n e s).bi.txState = s.bi.txState ∧ (removeEntry k n e s).bi.failRun = s.bi.failRun ∧
    (removeEntry k n e s).bi.mute = s.bi.mute ∧ (removeEntry k n e s).bi.timerA = s.bi.timerA ∧
    (removeEntry k n e s).bi.timerB = s.bi.timerB ∧ (removeEntry k n e s).bi.identityCount = s.bi.identityCount ∧
    (removeEntry k n e s).bi.pulse = s.bi.pulse ∧ (removeEntry k n e s).bi.stats = s.bi.stats ∧
    (removeEntry k n e s).sup = s.sup ∧ (removeEntry k n e s).sm = s.sm ∧
    (removeEntry k n e s).lp.phase = s.lp.phase ∧ (removeEntry k n e s).lp.result = s.lp.result ∧
    (removeEntry k n e s).lp.sdo = s.lp.sdo ∧ (removeEntry k n e s).lp.lostCommands = s.lp.lostCommands ∧
    (removeEntry k n e s).lp.mask = s.lp.mask ∧ (removeEntry k n e s).lp.fanCauses = s.lp.fanCauses ∧
    (removeEntry k n e s).lp.busCauses = s.lp.busCauses ∧ (removeEntry k n e s).lp.ejectCauses = s.lp.ejectCauses ∧
    (removeEntry k n e s).lp.laneOutcome = s.lp.laneOutcome ∧ (removeEntry k n e s).lp.laneSlot = s.lp.laneSlot ∧
    (removeEntry k n e s).lp.mailQueue = s.lp.mailQueue ∧ (removeEntry k n e s).lp.overflow = s.lp.overflow ∧
    (removeEntry k n e s).lp.box0 = s.lp.box0 ∧ (removeEntry k n e s).lp.box1 = s.lp.box1 ∧
    (removeEntry k n e s).lp.nextTag = s.lp.nextTag ∧ (removeEntry k n e s).lp.lastFinal = s.lp.lastFinal := by
  generalize h : removeEntry k n e s = t
  unfold removeEntry at h
  try dsimp only at h
  subst h; simp

@[simp] theorem budgetPresent_frame (n : Nat) (e : RosterEntry) (s : State) :
    (budgetPresent n e s).now = s.now ∧ (budgetPresent n e s).pending = s.pending ∧
    (budgetPresent n e s).pins = s.pins ∧ (budgetPresent n e s).lc = s.lc ∧
    (budgetPresent n e s).bi.rate = s.bi.rate ∧ (budgetPresent n e s).bi.synced = s.bi.synced ∧
    (budgetPresent n e s).bi.idle = s.bi.idle ∧
    (budgetPresent n e s).bi.mails = s.bi.mails ∧ (budgetPresent n e s).bi.tx = s.bi.tx ∧
    (budgetPresent n e s).bi.txState = s.bi.txState ∧ (budgetPresent n e s).bi.failRun = s.bi.failRun ∧
    (budgetPresent n e s).bi.mute = s.bi.mute ∧ (budgetPresent n e s).bi.timerA = s.bi.timerA ∧
    (budgetPresent n e s).bi.timerB = s.bi.timerB ∧ (budgetPresent n e s).bi.identityCount = s.bi.identityCount ∧
    (budgetPresent n e s).bi.pulse = s.bi.pulse ∧ (budgetPresent n e s).bi.stats = s.bi.stats ∧
    (budgetPresent n e s).ro = s.ro ∧ (budgetPresent n e s).sup = s.sup ∧ (budgetPresent n e s).sm = s.sm ∧
    (budgetPresent n e s).fc = s.fc ∧ (budgetPresent n e s).lp.phase = s.lp.phase ∧
    (budgetPresent n e s).lp.result = s.lp.result ∧ (budgetPresent n e s).lp.sdo = s.lp.sdo ∧
    (budgetPresent n e s).lp.lostCommands = s.lp.lostCommands ∧ (budgetPresent n e s).lp.mask = s.lp.mask ∧
    (budgetPresent n e s).lp.fanCauses = s.lp.fanCauses ∧ (budgetPresent n e s).lp.busCauses = s.lp.busCauses ∧
    (budgetPresent n e s).lp.ejectCauses = s.lp.ejectCauses ∧
    (budgetPresent n e s).lp.laneOutcome = s.lp.laneOutcome ∧ (budgetPresent n e s).lp.laneSlot = s.lp.laneSlot ∧
    (budgetPresent n e s).lp.mailQueue = s.lp.mailQueue ∧ (budgetPresent n e s).lp.overflow = s.lp.overflow ∧
    (budgetPresent n e s).lp.box0 = s.lp.box0 ∧ (budgetPresent n e s).lp.box1 = s.lp.box1 ∧
    (budgetPresent n e s).lp.nextTag = s.lp.nextTag ∧ (budgetPresent n e s).lp.lastFinal = s.lp.lastFinal := by
  unfold budgetPresent; cases e.claim <;> simp

@[simp] theorem insertEntry_frame (n : Nat) (e : RosterEntry) (s : State) :
    (insertEntry n e s).now = s.now ∧ (insertEntry n e s).pending = s.pending ∧ (insertEntry n e s).pins = s.pins ∧
    (insertEntry n e s).lc = s.lc ∧ (insertEntry n e s).bi.rate = s.bi.rate ∧
    (insertEntry n e s).bi.synced = s.bi.synced ∧
    (insertEntry n e s).bi.idle = s.bi.idle ∧ (insertEntry n e s).bi.mails = s.bi.mails ∧
    (insertEntry n e s).bi.tx = s.bi.tx ∧ (insertEntry n e s).bi.txState = s.bi.txState ∧
    (insertEntry n e s).bi.failRun = s.bi.failRun ∧ (insertEntry n e s).bi.mute = s.bi.mute ∧
    (insertEntry n e s).bi.timerA = s.bi.timerA ∧ (insertEntry n e s).bi.timerB = s.bi.timerB ∧
    (insertEntry n e s).bi.identityCount = s.bi.identityCount ∧ (insertEntry n e s).bi.pulse = s.bi.pulse ∧
    (insertEntry n e s).bi.stats = s.bi.stats ∧ (insertEntry n e s).sup = s.sup ∧ (insertEntry n e s).sm = s.sm ∧
    (insertEntry n e s).fc = s.fc ∧ (insertEntry n e s).lp.phase = s.lp.phase ∧
    (insertEntry n e s).lp.result = s.lp.result ∧ (insertEntry n e s).lp.sdo = s.lp.sdo ∧
    (insertEntry n e s).lp.lostCommands = s.lp.lostCommands ∧ (insertEntry n e s).lp.mask = s.lp.mask ∧
    (insertEntry n e s).lp.fanCauses = s.lp.fanCauses ∧ (insertEntry n e s).lp.busCauses = s.lp.busCauses ∧
    (insertEntry n e s).lp.ejectCauses = s.lp.ejectCauses ∧ (insertEntry n e s).lp.laneOutcome = s.lp.laneOutcome ∧
    (insertEntry n e s).lp.laneSlot = s.lp.laneSlot ∧ (insertEntry n e s).lp.mailQueue = s.lp.mailQueue ∧
    (insertEntry n e s).lp.overflow = s.lp.overflow ∧ (insertEntry n e s).lp.box0 = s.lp.box0 ∧
    (insertEntry n e s).lp.box1 = s.lp.box1 ∧ (insertEntry n e s).lp.nextTag = s.lp.nextTag ∧
    (insertEntry n e s).lp.lastFinal = s.lp.lastFinal := by
  generalize h : insertEntry n e s = t
  unfold insertEntry at h
  try dsimp only at h
  subst h; simp

@[simp] theorem swapEntry_frame (n : Nat) (e : RosterEntry) (s : State) :
    (swapEntry n e s).now = s.now ∧ (swapEntry n e s).pending = s.pending ∧ (swapEntry n e s).pins = s.pins ∧
    (swapEntry n e s).lc = s.lc ∧ (swapEntry n e s).bi.rate = s.bi.rate ∧
    (swapEntry n e s).bi.synced = s.bi.synced ∧ (swapEntry n e s).bi.idle = s.bi.idle ∧
    (swapEntry n e s).bi.mails = s.bi.mails ∧ (swapEntry n e s).bi.tx = s.bi.tx ∧
    (swapEntry n e s).bi.txState = s.bi.txState ∧ (swapEntry n e s).bi.failRun = s.bi.failRun ∧
    (swapEntry n e s).bi.mute = s.bi.mute ∧ (swapEntry n e s).bi.timerA = s.bi.timerA ∧
    (swapEntry n e s).bi.timerB = s.bi.timerB ∧ (swapEntry n e s).bi.identityCount = s.bi.identityCount ∧
    (swapEntry n e s).bi.pulse = s.bi.pulse ∧ (swapEntry n e s).bi.stats = s.bi.stats ∧
    (swapEntry n e s).sup = s.sup ∧ (swapEntry n e s).sm = s.sm ∧ (swapEntry n e s).lp.phase = s.lp.phase ∧
    (swapEntry n e s).lp.result = s.lp.result ∧ (swapEntry n e s).lp.sdo = s.lp.sdo ∧
    (swapEntry n e s).lp.lostCommands = s.lp.lostCommands ∧ (swapEntry n e s).lp.mask = s.lp.mask ∧
    (swapEntry n e s).lp.fanCauses = s.lp.fanCauses ∧ (swapEntry n e s).lp.busCauses = s.lp.busCauses ∧
    (swapEntry n e s).lp.ejectCauses = s.lp.ejectCauses ∧ (swapEntry n e s).lp.laneOutcome = s.lp.laneOutcome ∧
    (swapEntry n e s).lp.laneSlot = s.lp.laneSlot ∧ (swapEntry n e s).lp.mailQueue = s.lp.mailQueue ∧
    (swapEntry n e s).lp.overflow = s.lp.overflow ∧ (swapEntry n e s).lp.box0 = s.lp.box0 ∧
    (swapEntry n e s).lp.box1 = s.lp.box1 ∧ (swapEntry n e s).lp.nextTag = s.lp.nextTag ∧
    (swapEntry n e s).lp.lastFinal = s.lp.lastFinal := by
  generalize h : swapEntry n e s = t
  unfold swapEntry at h
  try dsimp only at h
  subst h; simp

@[simp] theorem budgetAnnounced_frame (n : Nat) (e e' : RosterEntry) (s : State) :
    (budgetAnnounced n e e' s).now = s.now ∧ (budgetAnnounced n e e' s).pending = s.pending ∧
    (budgetAnnounced n e e' s).pins = s.pins ∧ (budgetAnnounced n e e' s).lc = s.lc ∧
    (budgetAnnounced n e e' s).bi.rate = s.bi.rate ∧ (budgetAnnounced n e e' s).bi.synced = s.bi.synced ∧
    (budgetAnnounced n e e' s).bi.idle = s.bi.idle ∧
    (budgetAnnounced n e e' s).bi.mails = s.bi.mails ∧ (budgetAnnounced n e e' s).bi.tx = s.bi.tx ∧
    (budgetAnnounced n e e' s).bi.txState = s.bi.txState ∧ (budgetAnnounced n e e' s).bi.failRun = s.bi.failRun ∧
    (budgetAnnounced n e e' s).bi.mute = s.bi.mute ∧ (budgetAnnounced n e e' s).bi.timerA = s.bi.timerA ∧
    (budgetAnnounced n e e' s).bi.timerB = s.bi.timerB ∧
    (budgetAnnounced n e e' s).bi.identityCount = s.bi.identityCount ∧
    (budgetAnnounced n e e' s).bi.pulse = s.bi.pulse ∧ (budgetAnnounced n e e' s).bi.stats = s.bi.stats ∧
    (budgetAnnounced n e e' s).ro = s.ro ∧ (budgetAnnounced n e e' s).sup = s.sup ∧
    (budgetAnnounced n e e' s).sm = s.sm ∧ (budgetAnnounced n e e' s).fc = s.fc ∧
    (budgetAnnounced n e e' s).lp.phase = s.lp.phase ∧ (budgetAnnounced n e e' s).lp.result = s.lp.result ∧
    (budgetAnnounced n e e' s).lp.sdo = s.lp.sdo ∧ (budgetAnnounced n e e' s).lp.lostCommands = s.lp.lostCommands ∧
    (budgetAnnounced n e e' s).lp.mask = s.lp.mask ∧ (budgetAnnounced n e e' s).lp.fanCauses = s.lp.fanCauses ∧
    (budgetAnnounced n e e' s).lp.busCauses = s.lp.busCauses ∧
    (budgetAnnounced n e e' s).lp.ejectCauses = s.lp.ejectCauses ∧
    (budgetAnnounced n e e' s).lp.laneOutcome = s.lp.laneOutcome ∧
    (budgetAnnounced n e e' s).lp.laneSlot = s.lp.laneSlot ∧
    (budgetAnnounced n e e' s).lp.mailQueue = s.lp.mailQueue ∧
    (budgetAnnounced n e e' s).lp.overflow = s.lp.overflow ∧ (budgetAnnounced n e e' s).lp.box0 = s.lp.box0 ∧
    (budgetAnnounced n e e' s).lp.box1 = s.lp.box1 ∧ (budgetAnnounced n e e' s).lp.nextTag = s.lp.nextTag ∧
    (budgetAnnounced n e e' s).lp.lastFinal = s.lp.lastFinal := by
  unfold budgetAnnounced; dsimp only; cases e'.claim <;> split <;> simp

@[simp] theorem announceEntry_frame (n : Nat) (e : RosterEntry) (a : Announcement) (s : State) :
    (announceEntry n e a s).now = s.now ∧ (announceEntry n e a s).pending = s.pending ∧
    (announceEntry n e a s).pins = s.pins ∧ (announceEntry n e a s).lc = s.lc ∧
    (announceEntry n e a s).bi.rate = s.bi.rate ∧ (announceEntry n e a s).bi.synced = s.bi.synced ∧
    (announceEntry n e a s).bi.idle = s.bi.idle ∧
    (announceEntry n e a s).bi.mails = s.bi.mails ∧ (announceEntry n e a s).bi.tx = s.bi.tx ∧
    (announceEntry n e a s).bi.txState = s.bi.txState ∧ (announceEntry n e a s).bi.failRun = s.bi.failRun ∧
    (announceEntry n e a s).bi.mute = s.bi.mute ∧ (announceEntry n e a s).bi.timerA = s.bi.timerA ∧
    (announceEntry n e a s).bi.timerB = s.bi.timerB ∧ (announceEntry n e a s).bi.identityCount = s.bi.identityCount ∧
    (announceEntry n e a s).bi.pulse = s.bi.pulse ∧ (announceEntry n e a s).bi.stats = s.bi.stats ∧
    (announceEntry n e a s).sup = s.sup ∧ (announceEntry n e a s).sm = s.sm ∧ (announceEntry n e a s).fc = s.fc ∧
    (announceEntry n e a s).lp.phase = s.lp.phase ∧ (announceEntry n e a s).lp.result = s.lp.result ∧
    (announceEntry n e a s).lp.sdo = s.lp.sdo ∧ (announceEntry n e a s).lp.lostCommands = s.lp.lostCommands ∧
    (announceEntry n e a s).lp.mask = s.lp.mask ∧ (announceEntry n e a s).lp.fanCauses = s.lp.fanCauses ∧
    (announceEntry n e a s).lp.busCauses = s.lp.busCauses ∧
    (announceEntry n e a s).lp.ejectCauses = s.lp.ejectCauses ∧
    (announceEntry n e a s).lp.laneOutcome = s.lp.laneOutcome ∧ (announceEntry n e a s).lp.laneSlot = s.lp.laneSlot ∧
    (announceEntry n e a s).lp.mailQueue = s.lp.mailQueue ∧ (announceEntry n e a s).lp.overflow = s.lp.overflow ∧
    (announceEntry n e a s).lp.box0 = s.lp.box0 ∧ (announceEntry n e a s).lp.box1 = s.lp.box1 ∧
    (announceEntry n e a s).lp.nextTag = s.lp.nextTag ∧ (announceEntry n e a s).lp.lastFinal = s.lp.lastFinal := by
  generalize h : announceEntry n e a s = t
  unfold announceEntry at h
  try dsimp only at h
  (repeat' split at h) <;> subst h <;> simp

@[simp] theorem takeAnnounce_frame (n : Nat) (a : Announcement) (s : State) :
    (takeAnnounce n a s).now = s.now ∧ (takeAnnounce n a s).pending = s.pending ∧
    (takeAnnounce n a s).pins = s.pins ∧ (takeAnnounce n a s).lc = s.lc ∧ (takeAnnounce n a s).bi.rate = s.bi.rate ∧
    (takeAnnounce n a s).bi.synced = s.bi.synced ∧
    (takeAnnounce n a s).bi.idle = s.bi.idle ∧ (takeAnnounce n a s).bi.mails = s.bi.mails ∧
    (takeAnnounce n a s).bi.tx = s.bi.tx ∧ (takeAnnounce n a s).bi.txState = s.bi.txState ∧
    (takeAnnounce n a s).bi.failRun = s.bi.failRun ∧ (takeAnnounce n a s).bi.mute = s.bi.mute ∧
    (takeAnnounce n a s).bi.timerA = s.bi.timerA ∧ (takeAnnounce n a s).bi.timerB = s.bi.timerB ∧
    (takeAnnounce n a s).bi.identityCount = s.bi.identityCount ∧ (takeAnnounce n a s).bi.pulse = s.bi.pulse ∧
    (takeAnnounce n a s).bi.stats = s.bi.stats ∧ (takeAnnounce n a s).sup = s.sup ∧ (takeAnnounce n a s).sm = s.sm ∧
    (takeAnnounce n a s).lp.phase = s.lp.phase ∧ (takeAnnounce n a s).lp.result = s.lp.result ∧
    (takeAnnounce n a s).lp.sdo = s.lp.sdo ∧ (takeAnnounce n a s).lp.lostCommands = s.lp.lostCommands ∧
    (takeAnnounce n a s).lp.mask = s.lp.mask ∧ (takeAnnounce n a s).lp.fanCauses = s.lp.fanCauses ∧
    (takeAnnounce n a s).lp.busCauses = s.lp.busCauses ∧ (takeAnnounce n a s).lp.ejectCauses = s.lp.ejectCauses ∧
    (takeAnnounce n a s).lp.laneOutcome = s.lp.laneOutcome ∧ (takeAnnounce n a s).lp.laneSlot = s.lp.laneSlot ∧
    (takeAnnounce n a s).lp.mailQueue = s.lp.mailQueue ∧ (takeAnnounce n a s).lp.overflow = s.lp.overflow ∧
    (takeAnnounce n a s).lp.box0 = s.lp.box0 ∧ (takeAnnounce n a s).lp.box1 = s.lp.box1 ∧
    (takeAnnounce n a s).lp.nextTag = s.lp.nextTag ∧ (takeAnnounce n a s).lp.lastFinal = s.lp.lastFinal := by
  generalize h : takeAnnounce n a s = t
  unfold takeAnnounce at h
  try dsimp only at h
  (repeat' split at h) <;> subst h <;> simp

@[simp] theorem takeJoin_frame (n : Nat) (r : Role) (i : Identity) (s : State) :
    (takeJoin n r i s).now = s.now ∧ (takeJoin n r i s).pending = s.pending ∧ (takeJoin n r i s).pins = s.pins ∧
    (takeJoin n r i s).lc = s.lc ∧ (takeJoin n r i s).bi.rate = s.bi.rate ∧
    (takeJoin n r i s).bi.synced = s.bi.synced ∧ (takeJoin n r i s).bi.idle = s.bi.idle ∧
    (takeJoin n r i s).bi.mails = s.bi.mails ∧ (takeJoin n r i s).bi.tx = s.bi.tx ∧
    (takeJoin n r i s).bi.txState = s.bi.txState ∧ (takeJoin n r i s).bi.failRun = s.bi.failRun ∧
    (takeJoin n r i s).bi.mute = s.bi.mute ∧ (takeJoin n r i s).bi.timerA = s.bi.timerA ∧
    (takeJoin n r i s).bi.timerB = s.bi.timerB ∧ (takeJoin n r i s).bi.identityCount = s.bi.identityCount ∧
    (takeJoin n r i s).bi.pulse = s.bi.pulse ∧ (takeJoin n r i s).bi.stats = s.bi.stats ∧
    (takeJoin n r i s).sup = s.sup ∧ (takeJoin n r i s).sm = s.sm ∧ (takeJoin n r i s).lp.phase = s.lp.phase ∧
    (takeJoin n r i s).lp.result = s.lp.result ∧ (takeJoin n r i s).lp.sdo = s.lp.sdo ∧
    (takeJoin n r i s).lp.lostCommands = s.lp.lostCommands ∧ (takeJoin n r i s).lp.mask = s.lp.mask ∧
    (takeJoin n r i s).lp.fanCauses = s.lp.fanCauses ∧ (takeJoin n r i s).lp.busCauses = s.lp.busCauses ∧
    (takeJoin n r i s).lp.ejectCauses = s.lp.ejectCauses ∧ (takeJoin n r i s).lp.laneOutcome = s.lp.laneOutcome ∧
    (takeJoin n r i s).lp.laneSlot = s.lp.laneSlot ∧ (takeJoin n r i s).lp.mailQueue = s.lp.mailQueue ∧
    (takeJoin n r i s).lp.overflow = s.lp.overflow ∧ (takeJoin n r i s).lp.box0 = s.lp.box0 ∧
    (takeJoin n r i s).lp.box1 = s.lp.box1 ∧ (takeJoin n r i s).lp.nextTag = s.lp.nextTag ∧
    (takeJoin n r i s).lp.lastFinal = s.lp.lastFinal := by
  generalize h : takeJoin n r i s = t
  unfold takeJoin at h
  try dsimp only at h
  (repeat' split at h) <;> subst h <;> simp

@[simp] theorem takeClaim_frame (n : Nat) (e : RosterEntry) (p : ClaimPart) (s : State) :
    (takeClaim n e p s).now = s.now ∧ (takeClaim n e p s).pending = s.pending ∧ (takeClaim n e p s).pins = s.pins ∧
    (takeClaim n e p s).lc = s.lc ∧ (takeClaim n e p s).bi.rate = s.bi.rate ∧
    (takeClaim n e p s).bi.synced = s.bi.synced ∧
    (takeClaim n e p s).bi.idle = s.bi.idle ∧ (takeClaim n e p s).bi.mails = s.bi.mails ∧
    (takeClaim n e p s).bi.tx = s.bi.tx ∧ (takeClaim n e p s).bi.txState = s.bi.txState ∧
    (takeClaim n e p s).bi.failRun = s.bi.failRun ∧ (takeClaim n e p s).bi.mute = s.bi.mute ∧
    (takeClaim n e p s).bi.timerA = s.bi.timerA ∧ (takeClaim n e p s).bi.timerB = s.bi.timerB ∧
    (takeClaim n e p s).bi.identityCount = s.bi.identityCount ∧ (takeClaim n e p s).bi.pulse = s.bi.pulse ∧
    (takeClaim n e p s).bi.stats = s.bi.stats ∧ (takeClaim n e p s).sup = s.sup ∧ (takeClaim n e p s).sm = s.sm ∧
    (takeClaim n e p s).fc = s.fc ∧ (takeClaim n e p s).lp.phase = s.lp.phase ∧
    (takeClaim n e p s).lp.result = s.lp.result ∧ (takeClaim n e p s).lp.sdo = s.lp.sdo ∧
    (takeClaim n e p s).lp.lostCommands = s.lp.lostCommands ∧ (takeClaim n e p s).lp.mask = s.lp.mask ∧
    (takeClaim n e p s).lp.fanCauses = s.lp.fanCauses ∧ (takeClaim n e p s).lp.busCauses = s.lp.busCauses ∧
    (takeClaim n e p s).lp.ejectCauses = s.lp.ejectCauses ∧ (takeClaim n e p s).lp.laneOutcome = s.lp.laneOutcome ∧
    (takeClaim n e p s).lp.laneSlot = s.lp.laneSlot ∧ (takeClaim n e p s).lp.mailQueue = s.lp.mailQueue ∧
    (takeClaim n e p s).lp.overflow = s.lp.overflow ∧ (takeClaim n e p s).lp.box0 = s.lp.box0 ∧
    (takeClaim n e p s).lp.box1 = s.lp.box1 ∧ (takeClaim n e p s).lp.nextTag = s.lp.nextTag ∧
    (takeClaim n e p s).lp.lastFinal = s.lp.lastFinal := by
  generalize h : takeClaim n e p s = t
  unfold takeClaim at h
  try dsimp only at h
  (repeat' split at h) <;> subst h <;> simp

@[simp] theorem takeReleaseFrame_frame (n : Nat) (e : RosterEntry) (s : State) :
    (takeReleaseFrame n e s).now = s.now ∧ (takeReleaseFrame n e s).pending = s.pending ∧
    (takeReleaseFrame n e s).pins = s.pins ∧ (takeReleaseFrame n e s).lc = s.lc ∧
    (takeReleaseFrame n e s).bi.rate = s.bi.rate ∧ (takeReleaseFrame n e s).bi.synced = s.bi.synced ∧
    (takeReleaseFrame n e s).bi.idle = s.bi.idle ∧
    (takeReleaseFrame n e s).bi.mails = s.bi.mails ∧ (takeReleaseFrame n e s).bi.tx = s.bi.tx ∧
    (takeReleaseFrame n e s).bi.txState = s.bi.txState ∧ (takeReleaseFrame n e s).bi.failRun = s.bi.failRun ∧
    (takeReleaseFrame n e s).bi.mute = s.bi.mute ∧ (takeReleaseFrame n e s).bi.timerA = s.bi.timerA ∧
    (takeReleaseFrame n e s).bi.timerB = s.bi.timerB ∧
    (takeReleaseFrame n e s).bi.identityCount = s.bi.identityCount ∧ (takeReleaseFrame n e s).bi.pulse = s.bi.pulse ∧
    (takeReleaseFrame n e s).bi.stats = s.bi.stats ∧ (takeReleaseFrame n e s).sup = s.sup ∧
    (takeReleaseFrame n e s).sm = s.sm ∧ (takeReleaseFrame n e s).fc = s.fc ∧
    (takeReleaseFrame n e s).lp.phase = s.lp.phase ∧ (takeReleaseFrame n e s).lp.result = s.lp.result ∧
    (takeReleaseFrame n e s).lp.sdo = s.lp.sdo ∧ (takeReleaseFrame n e s).lp.lostCommands = s.lp.lostCommands ∧
    (takeReleaseFrame n e s).lp.mask = s.lp.mask ∧ (takeReleaseFrame n e s).lp.fanCauses = s.lp.fanCauses ∧
    (takeReleaseFrame n e s).lp.busCauses = s.lp.busCauses ∧
    (takeReleaseFrame n e s).lp.ejectCauses = s.lp.ejectCauses ∧
    (takeReleaseFrame n e s).lp.laneOutcome = s.lp.laneOutcome ∧
    (takeReleaseFrame n e s).lp.laneSlot = s.lp.laneSlot ∧ (takeReleaseFrame n e s).lp.mailQueue = s.lp.mailQueue ∧
    (takeReleaseFrame n e s).lp.overflow = s.lp.overflow ∧ (takeReleaseFrame n e s).lp.box0 = s.lp.box0 ∧
    (takeReleaseFrame n e s).lp.box1 = s.lp.box1 ∧ (takeReleaseFrame n e s).lp.nextTag = s.lp.nextTag ∧
    (takeReleaseFrame n e s).lp.lastFinal = s.lp.lastFinal := by
  generalize h : takeReleaseFrame n e s = t
  unfold takeReleaseFrame at h
  try dsimp only at h
  (repeat' split at h) <;> subst h <;> simp

@[simp] theorem takeCapacity_frame (n : Nat) (e : RosterEntry) (p : SupplyPart) (s : State) :
    (takeCapacity n e p s).now = s.now ∧ (takeCapacity n e p s).pending = s.pending ∧
    (takeCapacity n e p s).pins = s.pins ∧ (takeCapacity n e p s).lc = s.lc ∧
    (takeCapacity n e p s).bi.rate = s.bi.rate ∧ (takeCapacity n e p s).bi.synced = s.bi.synced ∧
    (takeCapacity n e p s).bi.idle = s.bi.idle ∧
    (takeCapacity n e p s).bi.mails = s.bi.mails ∧ (takeCapacity n e p s).bi.tx = s.bi.tx ∧
    (takeCapacity n e p s).bi.txState = s.bi.txState ∧ (takeCapacity n e p s).bi.failRun = s.bi.failRun ∧
    (takeCapacity n e p s).bi.mute = s.bi.mute ∧ (takeCapacity n e p s).bi.timerA = s.bi.timerA ∧
    (takeCapacity n e p s).bi.timerB = s.bi.timerB ∧ (takeCapacity n e p s).bi.identityCount = s.bi.identityCount ∧
    (takeCapacity n e p s).bi.pulse = s.bi.pulse ∧ (takeCapacity n e p s).bi.stats = s.bi.stats ∧
    (takeCapacity n e p s).sup = s.sup ∧ (takeCapacity n e p s).sm = s.sm ∧ (takeCapacity n e p s).fc = s.fc ∧
    (takeCapacity n e p s).lp.phase = s.lp.phase ∧ (takeCapacity n e p s).lp.result = s.lp.result ∧
    (takeCapacity n e p s).lp.sdo = s.lp.sdo ∧ (takeCapacity n e p s).lp.lostCommands = s.lp.lostCommands ∧
    (takeCapacity n e p s).lp.mask = s.lp.mask ∧ (takeCapacity n e p s).lp.fanCauses = s.lp.fanCauses ∧
    (takeCapacity n e p s).lp.busCauses = s.lp.busCauses ∧ (takeCapacity n e p s).lp.ejectCauses = s.lp.ejectCauses ∧
    (takeCapacity n e p s).lp.laneOutcome = s.lp.laneOutcome ∧ (takeCapacity n e p s).lp.laneSlot = s.lp.laneSlot ∧
    (takeCapacity n e p s).lp.mailQueue = s.lp.mailQueue ∧ (takeCapacity n e p s).lp.overflow = s.lp.overflow ∧
    (takeCapacity n e p s).lp.box0 = s.lp.box0 ∧ (takeCapacity n e p s).lp.box1 = s.lp.box1 ∧
    (takeCapacity n e p s).lp.nextTag = s.lp.nextTag ∧ (takeCapacity n e p s).lp.lastFinal = s.lp.lastFinal := by
  generalize h : takeCapacity n e p s = t
  unfold takeCapacity at h
  try dsimp only at h
  (repeat' split at h) <;> subst h <;> simp

@[simp] theorem takeFanstat_frame (n : Nat) (e : RosterEntry) (p : FanPart) (s : State) :
    (takeFanstat n e p s).now = s.now ∧ (takeFanstat n e p s).pending = s.pending ∧
    (takeFanstat n e p s).pins = s.pins ∧ (takeFanstat n e p s).lc = s.lc ∧
    (takeFanstat n e p s).bi.rate = s.bi.rate ∧ (takeFanstat n e p s).bi.synced = s.bi.synced ∧
    (takeFanstat n e p s).bi.idle = s.bi.idle ∧
    (takeFanstat n e p s).bi.mails = s.bi.mails ∧ (takeFanstat n e p s).bi.tx = s.bi.tx ∧
    (takeFanstat n e p s).bi.txState = s.bi.txState ∧ (takeFanstat n e p s).bi.failRun = s.bi.failRun ∧
    (takeFanstat n e p s).bi.mute = s.bi.mute ∧ (takeFanstat n e p s).bi.timerA = s.bi.timerA ∧
    (takeFanstat n e p s).bi.timerB = s.bi.timerB ∧ (takeFanstat n e p s).bi.identityCount = s.bi.identityCount ∧
    (takeFanstat n e p s).bi.pulse = s.bi.pulse ∧ (takeFanstat n e p s).bi.stats = s.bi.stats ∧
    (takeFanstat n e p s).sup = s.sup ∧ (takeFanstat n e p s).sm = s.sm ∧ (takeFanstat n e p s).fc = s.fc ∧
    (takeFanstat n e p s).lp.phase = s.lp.phase ∧ (takeFanstat n e p s).lp.result = s.lp.result ∧
    (takeFanstat n e p s).lp.sdo = s.lp.sdo ∧ (takeFanstat n e p s).lp.lostCommands = s.lp.lostCommands ∧
    (takeFanstat n e p s).lp.mask = s.lp.mask ∧ (takeFanstat n e p s).lp.fanCauses = s.lp.fanCauses ∧
    (takeFanstat n e p s).lp.busCauses = s.lp.busCauses ∧ (takeFanstat n e p s).lp.ejectCauses = s.lp.ejectCauses ∧
    (takeFanstat n e p s).lp.laneOutcome = s.lp.laneOutcome ∧ (takeFanstat n e p s).lp.laneSlot = s.lp.laneSlot ∧
    (takeFanstat n e p s).lp.mailQueue = s.lp.mailQueue ∧ (takeFanstat n e p s).lp.overflow = s.lp.overflow ∧
    (takeFanstat n e p s).lp.box0 = s.lp.box0 ∧ (takeFanstat n e p s).lp.box1 = s.lp.box1 ∧
    (takeFanstat n e p s).lp.nextTag = s.lp.nextTag ∧ (takeFanstat n e p s).lp.lastFinal = s.lp.lastFinal := by
  generalize h : takeFanstat n e p s = t
  unfold takeFanstat at h
  try dsimp only at h
  (repeat' split at h) <;> subst h <;> simp

@[simp] theorem grantFrame_frame (n : Nat) (e : RosterEntry) (p : List Byte) (s : State) :
    (grantFrame n e p s).now = s.now ∧ (grantFrame n e p s).pending = s.pending ∧
    (grantFrame n e p s).pins = s.pins ∧ (grantFrame n e p s).lc = s.lc ∧ (grantFrame n e p s).bi.rate = s.bi.rate ∧
    (grantFrame n e p s).bi.synced = s.bi.synced ∧
    (grantFrame n e p s).bi.idle = s.bi.idle ∧ (grantFrame n e p s).bi.mails = s.bi.mails ∧
    (grantFrame n e p s).bi.tx = s.bi.tx ∧ (grantFrame n e p s).bi.txState = s.bi.txState ∧
    (grantFrame n e p s).bi.failRun = s.bi.failRun ∧ (grantFrame n e p s).bi.mute = s.bi.mute ∧
    (grantFrame n e p s).bi.timerA = s.bi.timerA ∧ (grantFrame n e p s).bi.timerB = s.bi.timerB ∧
    (grantFrame n e p s).bi.identityCount = s.bi.identityCount ∧ (grantFrame n e p s).bi.pulse = s.bi.pulse ∧
    (grantFrame n e p s).bi.stats = s.bi.stats ∧ (grantFrame n e p s).ro = s.ro ∧ (grantFrame n e p s).sup = s.sup ∧
    (grantFrame n e p s).sm = s.sm ∧ (grantFrame n e p s).fc = s.fc ∧ (grantFrame n e p s).lp.phase = s.lp.phase ∧
    (grantFrame n e p s).lp.result = s.lp.result ∧ (grantFrame n e p s).lp.sdo = s.lp.sdo ∧
    (grantFrame n e p s).lp.lostCommands = s.lp.lostCommands ∧ (grantFrame n e p s).lp.mask = s.lp.mask ∧
    (grantFrame n e p s).lp.fanCauses = s.lp.fanCauses ∧ (grantFrame n e p s).lp.busCauses = s.lp.busCauses ∧
    (grantFrame n e p s).lp.ejectCauses = s.lp.ejectCauses ∧ (grantFrame n e p s).lp.mailQueue = s.lp.mailQueue ∧
    (grantFrame n e p s).lp.overflow = s.lp.overflow ∧ (grantFrame n e p s).lp.box0 = s.lp.box0 ∧
    (grantFrame n e p s).lp.box1 = s.lp.box1 ∧ (grantFrame n e p s).lp.nextTag = s.lp.nextTag ∧
    (grantFrame n e p s).lp.lastFinal = s.lp.lastFinal := by
  generalize h : grantFrame n e p s = t
  unfold grantFrame at h
  try dsimp only at h
  (repeat' split at h) <;> subst h <;> simp

@[simp] theorem requestFrame_frame (n : Nat) (e : RosterEntry) (p : List Byte) (s : State) :
    (requestFrame n e p s).now = s.now ∧ (requestFrame n e p s).pending = s.pending ∧
    (requestFrame n e p s).pins = s.pins ∧ (requestFrame n e p s).lc = s.lc ∧
    (requestFrame n e p s).bi.rate = s.bi.rate ∧ (requestFrame n e p s).bi.synced = s.bi.synced ∧
    (requestFrame n e p s).bi.idle = s.bi.idle ∧
    (requestFrame n e p s).bi.mails = s.bi.mails ∧ (requestFrame n e p s).bi.tx = s.bi.tx ∧
    (requestFrame n e p s).bi.txState = s.bi.txState ∧ (requestFrame n e p s).bi.failRun = s.bi.failRun ∧
    (requestFrame n e p s).bi.mute = s.bi.mute ∧ (requestFrame n e p s).bi.timerA = s.bi.timerA ∧
    (requestFrame n e p s).bi.timerB = s.bi.timerB ∧ (requestFrame n e p s).bi.identityCount = s.bi.identityCount ∧
    (requestFrame n e p s).bi.pulse = s.bi.pulse ∧ (requestFrame n e p s).bi.stats = s.bi.stats ∧
    (requestFrame n e p s).ro = s.ro ∧ (requestFrame n e p s).sup = s.sup ∧ (requestFrame n e p s).sm = s.sm ∧
    (requestFrame n e p s).fc = s.fc ∧ (requestFrame n e p s).lp.phase = s.lp.phase ∧
    (requestFrame n e p s).lp.result = s.lp.result ∧ (requestFrame n e p s).lp.sdo = s.lp.sdo ∧
    (requestFrame n e p s).lp.lostCommands = s.lp.lostCommands ∧ (requestFrame n e p s).lp.mask = s.lp.mask ∧
    (requestFrame n e p s).lp.fanCauses = s.lp.fanCauses ∧ (requestFrame n e p s).lp.busCauses = s.lp.busCauses ∧
    (requestFrame n e p s).lp.ejectCauses = s.lp.ejectCauses ∧
    (requestFrame n e p s).lp.laneOutcome = s.lp.laneOutcome ∧ (requestFrame n e p s).lp.laneSlot = s.lp.laneSlot ∧
    (requestFrame n e p s).lp.mailQueue = s.lp.mailQueue ∧ (requestFrame n e p s).lp.overflow = s.lp.overflow ∧
    (requestFrame n e p s).lp.box0 = s.lp.box0 ∧ (requestFrame n e p s).lp.box1 = s.lp.box1 ∧
    (requestFrame n e p s).lp.nextTag = s.lp.nextTag ∧ (requestFrame n e p s).lp.lastFinal = s.lp.lastFinal := by
  generalize h : requestFrame n e p s = t
  unfold requestFrame at h
  try dsimp only at h
  (repeat' split at h) <;> subst h <;> simp

@[simp] theorem releaseFrame_frame (n : Nat) (e : RosterEntry) (p : List Byte) (s : State) :
    (releaseFrame n e p s).now = s.now ∧ (releaseFrame n e p s).pending = s.pending ∧
    (releaseFrame n e p s).pins = s.pins ∧ (releaseFrame n e p s).lc = s.lc ∧
    (releaseFrame n e p s).bi.rate = s.bi.rate ∧ (releaseFrame n e p s).bi.synced = s.bi.synced ∧
    (releaseFrame n e p s).bi.idle = s.bi.idle ∧
    (releaseFrame n e p s).bi.mails = s.bi.mails ∧ (releaseFrame n e p s).bi.tx = s.bi.tx ∧
    (releaseFrame n e p s).bi.txState = s.bi.txState ∧ (releaseFrame n e p s).bi.failRun = s.bi.failRun ∧
    (releaseFrame n e p s).bi.mute = s.bi.mute ∧ (releaseFrame n e p s).bi.timerA = s.bi.timerA ∧
    (releaseFrame n e p s).bi.timerB = s.bi.timerB ∧ (releaseFrame n e p s).bi.identityCount = s.bi.identityCount ∧
    (releaseFrame n e p s).bi.pulse = s.bi.pulse ∧ (releaseFrame n e p s).bi.stats = s.bi.stats ∧
    (releaseFrame n e p s).ro = s.ro ∧ (releaseFrame n e p s).sup = s.sup ∧ (releaseFrame n e p s).sm = s.sm ∧
    (releaseFrame n e p s).fc = s.fc ∧ (releaseFrame n e p s).lp.phase = s.lp.phase ∧
    (releaseFrame n e p s).lp.result = s.lp.result ∧ (releaseFrame n e p s).lp.sdo = s.lp.sdo ∧
    (releaseFrame n e p s).lp.lostCommands = s.lp.lostCommands ∧ (releaseFrame n e p s).lp.mask = s.lp.mask ∧
    (releaseFrame n e p s).lp.fanCauses = s.lp.fanCauses ∧ (releaseFrame n e p s).lp.busCauses = s.lp.busCauses ∧
    (releaseFrame n e p s).lp.ejectCauses = s.lp.ejectCauses ∧
    (releaseFrame n e p s).lp.laneOutcome = s.lp.laneOutcome ∧ (releaseFrame n e p s).lp.laneSlot = s.lp.laneSlot ∧
    (releaseFrame n e p s).lp.mailQueue = s.lp.mailQueue ∧ (releaseFrame n e p s).lp.overflow = s.lp.overflow ∧
    (releaseFrame n e p s).lp.box0 = s.lp.box0 ∧ (releaseFrame n e p s).lp.box1 = s.lp.box1 ∧
    (releaseFrame n e p s).lp.nextTag = s.lp.nextTag ∧ (releaseFrame n e p s).lp.lastFinal = s.lp.lastFinal := by
  generalize h : releaseFrame n e p s = t
  unfold releaseFrame at h
  try dsimp only at h
  (repeat' split at h) <;> subst h <;> simp

@[simp] theorem thermalFrame_frame (n : Nat) (p : List Byte) (s : State) :
    (thermalFrame n p s).now = s.now ∧ (thermalFrame n p s).pending = s.pending ∧
    (thermalFrame n p s).pins = s.pins ∧ (thermalFrame n p s).lc = s.lc ∧ (thermalFrame n p s).bi = s.bi ∧
    (thermalFrame n p s).ro = s.ro ∧ (thermalFrame n p s).bu = s.bu ∧ (thermalFrame n p s).ps = s.ps ∧
    (thermalFrame n p s).sup = s.sup ∧ (thermalFrame n p s).sm = s.sm ∧ (thermalFrame n p s).lm = s.lm ∧
    (thermalFrame n p s).lb = s.lb ∧ (thermalFrame n p s).lp = s.lp := by
  generalize h : thermalFrame n p s = t
  unfold thermalFrame at h
  try dsimp only at h
  (repeat' split at h) <;> subst h <;> simp

@[simp] theorem takeMail_frame (n : Nat) (b : Bool) (p : List Byte) (s : State) :
    (takeMail n b p s).now = s.now ∧ (takeMail n b p s).pending = s.pending ∧ (takeMail n b p s).pins = s.pins ∧
    (takeMail n b p s).lc = s.lc ∧ (takeMail n b p s).bi = s.bi ∧ (takeMail n b p s).ro = s.ro ∧
    (takeMail n b p s).bu = s.bu ∧ (takeMail n b p s).ps = s.ps ∧ (takeMail n b p s).sup = s.sup ∧
    (takeMail n b p s).sm = s.sm ∧ (takeMail n b p s).fc = s.fc ∧ (takeMail n b p s).lm = s.lm ∧
    (takeMail n b p s).lb = s.lb ∧ (takeMail n b p s).lp.phase = s.lp.phase ∧
    (takeMail n b p s).lp.result = s.lp.result ∧ (takeMail n b p s).lp.sdo = s.lp.sdo ∧
    (takeMail n b p s).lp.lostCommands = s.lp.lostCommands ∧ (takeMail n b p s).lp.mask = s.lp.mask ∧
    (takeMail n b p s).lp.powerCause = s.lp.powerCause ∧ (takeMail n b p s).lp.shedCauses = s.lp.shedCauses ∧
    (takeMail n b p s).lp.raiseCauses = s.lp.raiseCauses ∧ (takeMail n b p s).lp.fanCauses = s.lp.fanCauses ∧
    (takeMail n b p s).lp.busCauses = s.lp.busCauses ∧ (takeMail n b p s).lp.ejectCauses = s.lp.ejectCauses ∧
    (takeMail n b p s).lp.laneOutcome = s.lp.laneOutcome ∧ (takeMail n b p s).lp.laneSlot = s.lp.laneSlot ∧
    (takeMail n b p s).lp.box0 = s.lp.box0 ∧ (takeMail n b p s).lp.box1 = s.lp.box1 ∧
    (takeMail n b p s).lp.nextTag = s.lp.nextTag ∧ (takeMail n b p s).lp.lastFinal = s.lp.lastFinal := by
  generalize h : takeMail n b p s = t
  unfold takeMail at h
  try dsimp only at h
  (repeat' split at h) <;> subst h <;> simp

@[simp] theorem deliverKnown_frame (k n : Nat) (e : RosterEntry) (p : List Byte) (s : State) :
    (deliverKnown k n e p s).now = s.now ∧ (deliverKnown k n e p s).pending = s.pending ∧
    (deliverKnown k n e p s).pins = s.pins ∧ (deliverKnown k n e p s).lc = s.lc ∧
    (deliverKnown k n e p s).bi.rate = s.bi.rate ∧ (deliverKnown k n e p s).bi.synced = s.bi.synced ∧
    (deliverKnown k n e p s).bi.idle = s.bi.idle ∧
    (deliverKnown k n e p s).bi.mails = s.bi.mails ∧ (deliverKnown k n e p s).bi.tx = s.bi.tx ∧
    (deliverKnown k n e p s).bi.txState = s.bi.txState ∧ (deliverKnown k n e p s).bi.failRun = s.bi.failRun ∧
    (deliverKnown k n e p s).bi.mute = s.bi.mute ∧ (deliverKnown k n e p s).bi.timerA = s.bi.timerA ∧
    (deliverKnown k n e p s).bi.timerB = s.bi.timerB ∧
    (deliverKnown k n e p s).bi.identityCount = s.bi.identityCount ∧ (deliverKnown k n e p s).bi.pulse = s.bi.pulse ∧
    (deliverKnown k n e p s).bi.stats = s.bi.stats ∧ (deliverKnown k n e p s).sup = s.sup ∧
    (deliverKnown k n e p s).sm = s.sm ∧ (deliverKnown k n e p s).lp.phase = s.lp.phase ∧
    (deliverKnown k n e p s).lp.result = s.lp.result ∧ (deliverKnown k n e p s).lp.sdo = s.lp.sdo ∧
    (deliverKnown k n e p s).lp.lostCommands = s.lp.lostCommands ∧ (deliverKnown k n e p s).lp.mask = s.lp.mask ∧
    (deliverKnown k n e p s).lp.fanCauses = s.lp.fanCauses ∧ (deliverKnown k n e p s).lp.busCauses = s.lp.busCauses ∧
    (deliverKnown k n e p s).lp.ejectCauses = s.lp.ejectCauses ∧ (deliverKnown k n e p s).lp.box0 = s.lp.box0 ∧
    (deliverKnown k n e p s).lp.box1 = s.lp.box1 ∧ (deliverKnown k n e p s).lp.nextTag = s.lp.nextTag ∧
    (deliverKnown k n e p s).lp.lastFinal = s.lp.lastFinal := by
  generalize h : deliverKnown k n e p s = t
  unfold deliverKnown at h
  try dsimp only at h
  (repeat' split at h) <;> subst h <;> simp

@[simp] theorem deliverUnknown_frame (k n : Nat) (p : List Byte) (s : State) :
    (deliverUnknown k n p s).now = s.now ∧ (deliverUnknown k n p s).pending = s.pending ∧
    (deliverUnknown k n p s).pins = s.pins ∧ (deliverUnknown k n p s).lc = s.lc ∧
    (deliverUnknown k n p s).bi.rate = s.bi.rate ∧ (deliverUnknown k n p s).bi.synced = s.bi.synced ∧
    (deliverUnknown k n p s).bi.idle = s.bi.idle ∧
    (deliverUnknown k n p s).bi.mails = s.bi.mails ∧ (deliverUnknown k n p s).bi.tx = s.bi.tx ∧
    (deliverUnknown k n p s).bi.txState = s.bi.txState ∧ (deliverUnknown k n p s).bi.failRun = s.bi.failRun ∧
    (deliverUnknown k n p s).bi.mute = s.bi.mute ∧ (deliverUnknown k n p s).bi.timerA = s.bi.timerA ∧
    (deliverUnknown k n p s).bi.timerB = s.bi.timerB ∧
    (deliverUnknown k n p s).bi.identityCount = s.bi.identityCount ∧ (deliverUnknown k n p s).bi.pulse = s.bi.pulse ∧
    (deliverUnknown k n p s).sup = s.sup ∧ (deliverUnknown k n p s).sm = s.sm ∧
    (deliverUnknown k n p s).lp.phase = s.lp.phase ∧ (deliverUnknown k n p s).lp.result = s.lp.result ∧
    (deliverUnknown k n p s).lp.sdo = s.lp.sdo ∧ (deliverUnknown k n p s).lp.lostCommands = s.lp.lostCommands ∧
    (deliverUnknown k n p s).lp.mask = s.lp.mask ∧ (deliverUnknown k n p s).lp.fanCauses = s.lp.fanCauses ∧
    (deliverUnknown k n p s).lp.busCauses = s.lp.busCauses ∧
    (deliverUnknown k n p s).lp.ejectCauses = s.lp.ejectCauses ∧ (deliverUnknown k n p s).lp.box0 = s.lp.box0 ∧
    (deliverUnknown k n p s).lp.box1 = s.lp.box1 ∧ (deliverUnknown k n p s).lp.nextTag = s.lp.nextTag ∧
    (deliverUnknown k n p s).lp.lastFinal = s.lp.lastFinal := by
  generalize h : deliverUnknown k n p s = t
  unfold deliverUnknown at h
  try dsimp only at h
  (repeat' split at h) <;> subst h <;> simp

@[simp] theorem deliver_frame (k n : Nat) (p : List Byte) (s : State) :
    (deliver k n p s).now = s.now ∧ (deliver k n p s).pending = s.pending ∧ (deliver k n p s).pins = s.pins ∧
    (deliver k n p s).lc = s.lc ∧ (deliver k n p s).bi.rate = s.bi.rate ∧
    (deliver k n p s).bi.synced = s.bi.synced ∧ (deliver k n p s).bi.idle = s.bi.idle ∧
    (deliver k n p s).bi.mails = s.bi.mails ∧ (deliver k n p s).bi.tx = s.bi.tx ∧
    (deliver k n p s).bi.txState = s.bi.txState ∧ (deliver k n p s).bi.failRun = s.bi.failRun ∧
    (deliver k n p s).bi.mute = s.bi.mute ∧ (deliver k n p s).bi.timerA = s.bi.timerA ∧
    (deliver k n p s).bi.timerB = s.bi.timerB ∧ (deliver k n p s).bi.identityCount = s.bi.identityCount ∧
    (deliver k n p s).bi.pulse = s.bi.pulse ∧ (deliver k n p s).sup = s.sup ∧ (deliver k n p s).sm = s.sm ∧
    (deliver k n p s).lp.phase = s.lp.phase ∧ (deliver k n p s).lp.result = s.lp.result ∧
    (deliver k n p s).lp.sdo = s.lp.sdo ∧ (deliver k n p s).lp.lostCommands = s.lp.lostCommands ∧
    (deliver k n p s).lp.mask = s.lp.mask ∧ (deliver k n p s).lp.fanCauses = s.lp.fanCauses ∧
    (deliver k n p s).lp.busCauses = s.lp.busCauses ∧ (deliver k n p s).lp.ejectCauses = s.lp.ejectCauses ∧
    (deliver k n p s).lp.box0 = s.lp.box0 ∧ (deliver k n p s).lp.box1 = s.lp.box1 ∧
    (deliver k n p s).lp.nextTag = s.lp.nextTag ∧ (deliver k n p s).lp.lastFinal = s.lp.lastFinal := by
  generalize h : deliver k n p s = t
  unfold deliver at h
  try dsimp only at h
  (repeat' split at h) <;> subst h <;> simp

end Sys2Proof.Machine
end

