-- ==== Sys2Proof/Laws/Life.lean ====
section
/-! SUPPORT. What the life cycle's operations and the end of every command leave unchanged. -/

namespace Sys2Proof.Machine

@[simp] theorem roleEntry_frame (s : State) :
    (roleEntry s).now = s.now ∧ (roleEntry s).pending = s.pending ∧ (roleEntry s).pins = s.pins ∧
    (roleEntry s).lc = s.lc ∧ (roleEntry s).bi.rate = s.bi.rate ∧ (roleEntry s).bi.synced = s.bi.synced ∧
    (roleEntry s).bi.idle = s.bi.idle ∧
    (roleEntry s).bi.lanes = s.bi.lanes ∧ (roleEntry s).bi.mails = s.bi.mails ∧ (roleEntry s).bi.tx = s.bi.tx ∧
    (roleEntry s).bi.txState = s.bi.txState ∧ (roleEntry s).bi.failRun = s.bi.failRun ∧
    (roleEntry s).bi.mute = s.bi.mute ∧ (roleEntry s).bi.timerA = s.bi.timerA ∧
    (roleEntry s).bi.timerB = s.bi.timerB ∧ (roleEntry s).bi.identityCount = s.bi.identityCount ∧
    (roleEntry s).bi.pulse = s.bi.pulse ∧ (roleEntry s).bi.stats = s.bi.stats ∧ (roleEntry s).ro = s.ro ∧
    (roleEntry s).sm = s.sm ∧ (roleEntry s).fc = s.fc ∧ (roleEntry s).lm = s.lm ∧ (roleEntry s).lb = s.lb ∧
    (roleEntry s).lp.phase = s.lp.phase ∧ (roleEntry s).lp.result = s.lp.result ∧ (roleEntry s).lp.sdo = s.lp.sdo ∧
    (roleEntry s).lp.lostCommands = s.lp.lostCommands ∧ (roleEntry s).lp.mask = s.lp.mask ∧
    (roleEntry s).lp.fanCauses = s.lp.fanCauses ∧ (roleEntry s).lp.busCauses = s.lp.busCauses ∧
    (roleEntry s).lp.ejectCauses = s.lp.ejectCauses ∧ (roleEntry s).lp.laneOutcome = s.lp.laneOutcome ∧
    (roleEntry s).lp.laneSlot = s.lp.laneSlot ∧ (roleEntry s).lp.mailQueue = s.lp.mailQueue ∧
    (roleEntry s).lp.overflow = s.lp.overflow ∧ (roleEntry s).lp.box0 = s.lp.box0 ∧
    (roleEntry s).lp.box1 = s.lp.box1 ∧ (roleEntry s).lp.nextTag = s.lp.nextTag ∧
    (roleEntry s).lp.lastFinal = s.lp.lastFinal := by
  generalize h : roleEntry s = t
  unfold roleEntry at h
  try dsimp only at h
  (repeat' split at h) <;> subst h <;> simp

@[simp] theorem enterActive_frame (s : State) :
    (enterActive s).now = s.now ∧ (enterActive s).pending = s.pending ∧ (enterActive s).pins = s.pins ∧
    (enterActive s).bi.rate = s.bi.rate ∧ (enterActive s).bi.synced = s.bi.synced ∧
    (enterActive s).bi.idle = s.bi.idle ∧
    (enterActive s).bi.lanes = s.bi.lanes ∧ (enterActive s).bi.mails = s.bi.mails ∧ (enterActive s).bi.tx = s.bi.tx ∧
    (enterActive s).bi.mute = s.bi.mute ∧ (enterActive s).bi.pulse = s.bi.pulse ∧
    (enterActive s).bi.stats = s.bi.stats ∧ (enterActive s).sm = s.sm ∧ (enterActive s).fc = s.fc ∧
    (enterActive s).lm = s.lm ∧ (enterActive s).lb = s.lb ∧ (enterActive s).lp.phase = s.lp.phase ∧
    (enterActive s).lp.result = s.lp.result ∧ (enterActive s).lp.sdo = s.lp.sdo ∧
    (enterActive s).lp.lostCommands = s.lp.lostCommands ∧ (enterActive s).lp.fanCauses = s.lp.fanCauses ∧
    (enterActive s).lp.busCauses = s.lp.busCauses ∧ (enterActive s).lp.ejectCauses = s.lp.ejectCauses ∧
    (enterActive s).lp.laneOutcome = s.lp.laneOutcome ∧ (enterActive s).lp.laneSlot = s.lp.laneSlot ∧
    (enterActive s).lp.mailQueue = s.lp.mailQueue ∧ (enterActive s).lp.overflow = s.lp.overflow ∧
    (enterActive s).lp.box0 = s.lp.box0 ∧ (enterActive s).lp.box1 = s.lp.box1 ∧
    (enterActive s).lp.nextTag = s.lp.nextTag ∧ (enterActive s).lp.lastFinal = s.lp.lastFinal := by
  generalize h : enterActive s = t
  unfold enterActive at h
  try dsimp only at h
  subst h; simp

@[simp] theorem enterReady_frame (s : State) :
    (enterReady s).now = s.now ∧ (enterReady s).pending = s.pending ∧ (enterReady s).pins = s.pins ∧
    (enterReady s).bi.rate = s.bi.rate ∧ (enterReady s).bi.synced = s.bi.synced ∧
    (enterReady s).bi.idle = s.bi.idle ∧ (enterReady s).bi.lanes = s.bi.lanes ∧
    (enterReady s).bi.mails = s.bi.mails ∧ (enterReady s).bi.tx = s.bi.tx ∧ (enterReady s).bi.mute = s.bi.mute ∧
    (enterReady s).bi.pulse = s.bi.pulse ∧ (enterReady s).bi.stats = s.bi.stats ∧ (enterReady s).sm = s.sm ∧
    (enterReady s).fc = s.fc ∧ (enterReady s).lm = s.lm ∧ (enterReady s).lb = s.lb ∧
    (enterReady s).lp.phase = s.lp.phase ∧ (enterReady s).lp.result = s.lp.result ∧
    (enterReady s).lp.sdo = s.lp.sdo ∧ (enterReady s).lp.lostCommands = s.lp.lostCommands ∧
    (enterReady s).lp.fanCauses = s.lp.fanCauses ∧ (enterReady s).lp.busCauses = s.lp.busCauses ∧
    (enterReady s).lp.ejectCauses = s.lp.ejectCauses ∧ (enterReady s).lp.laneOutcome = s.lp.laneOutcome ∧
    (enterReady s).lp.laneSlot = s.lp.laneSlot ∧ (enterReady s).lp.mailQueue = s.lp.mailQueue ∧
    (enterReady s).lp.overflow = s.lp.overflow ∧ (enterReady s).lp.box0 = s.lp.box0 ∧
    (enterReady s).lp.box1 = s.lp.box1 ∧ (enterReady s).lp.nextTag = s.lp.nextTag ∧
    (enterReady s).lp.lastFinal = s.lp.lastFinal := by
  generalize h : enterReady s = t
  unfold enterReady at h
  try dsimp only at h
  (repeat' split at h) <;> subst h <;> simp

@[simp] theorem clashPower_frame (s : State) :
    (clashPower s).now = s.now ∧ (clashPower s).pending = s.pending ∧ (clashPower s).pins = s.pins ∧
    (clashPower s).lc = s.lc ∧ (clashPower s).bi = s.bi ∧ (clashPower s).ro = s.ro ∧ (clashPower s).bu = s.bu ∧
    (clashPower s).sup = s.sup ∧ (clashPower s).sm = s.sm ∧ (clashPower s).fc = s.fc ∧ (clashPower s).lm = s.lm ∧
    (clashPower s).lb = s.lb ∧ (clashPower s).lp.phase = s.lp.phase ∧ (clashPower s).lp.result = s.lp.result ∧
    (clashPower s).lp.sdo = s.lp.sdo ∧ (clashPower s).lp.lostCommands = s.lp.lostCommands ∧
    (clashPower s).lp.mask = s.lp.mask ∧ (clashPower s).lp.shedCauses = s.lp.shedCauses ∧
    (clashPower s).lp.raiseCauses = s.lp.raiseCauses ∧ (clashPower s).lp.fanCauses = s.lp.fanCauses ∧
    (clashPower s).lp.busCauses = s.lp.busCauses ∧ (clashPower s).lp.ejectCauses = s.lp.ejectCauses ∧
    (clashPower s).lp.laneOutcome = s.lp.laneOutcome ∧ (clashPower s).lp.laneSlot = s.lp.laneSlot ∧
    (clashPower s).lp.mailQueue = s.lp.mailQueue ∧ (clashPower s).lp.overflow = s.lp.overflow ∧
    (clashPower s).lp.box0 = s.lp.box0 ∧ (clashPower s).lp.box1 = s.lp.box1 ∧
    (clashPower s).lp.nextTag = s.lp.nextTag ∧ (clashPower s).lp.lastFinal = s.lp.lastFinal := by
  generalize h : clashPower s = t
  unfold clashPower at h
  try dsimp only at h
  (repeat' split at h) <;> subst h <;> simp

@[simp] theorem dropOwnClaim_frame (s : State) :
    (dropOwnClaim s).now = s.now ∧ (dropOwnClaim s).pending = s.pending ∧ (dropOwnClaim s).pins = s.pins ∧
    (dropOwnClaim s).lc = s.lc ∧ (dropOwnClaim s).bi = s.bi ∧ (dropOwnClaim s).ro = s.ro ∧
    (dropOwnClaim s).ps = s.ps ∧ (dropOwnClaim s).sup = s.sup ∧ (dropOwnClaim s).sm = s.sm ∧
    (dropOwnClaim s).fc = s.fc ∧ (dropOwnClaim s).lm = s.lm ∧ (dropOwnClaim s).lb = s.lb ∧
    (dropOwnClaim s).lp.phase = s.lp.phase ∧ (dropOwnClaim s).lp.result = s.lp.result ∧
    (dropOwnClaim s).lp.sdo = s.lp.sdo ∧ (dropOwnClaim s).lp.lostCommands = s.lp.lostCommands ∧
    (dropOwnClaim s).lp.mask = s.lp.mask ∧ (dropOwnClaim s).lp.fanCauses = s.lp.fanCauses ∧
    (dropOwnClaim s).lp.busCauses = s.lp.busCauses ∧ (dropOwnClaim s).lp.ejectCauses = s.lp.ejectCauses ∧
    (dropOwnClaim s).lp.laneOutcome = s.lp.laneOutcome ∧ (dropOwnClaim s).lp.laneSlot = s.lp.laneSlot ∧
    (dropOwnClaim s).lp.mailQueue = s.lp.mailQueue ∧ (dropOwnClaim s).lp.overflow = s.lp.overflow ∧
    (dropOwnClaim s).lp.box0 = s.lp.box0 ∧ (dropOwnClaim s).lp.box1 = s.lp.box1 ∧
    (dropOwnClaim s).lp.nextTag = s.lp.nextTag ∧ (dropOwnClaim s).lp.lastFinal = s.lp.lastFinal := by
  generalize h : dropOwnClaim s = t
  unfold dropOwnClaim at h
  try dsimp only at h
  (repeat' split at h) <;> subst h <;> simp

@[simp] theorem completeRemoval_frame (s : State) :
    (completeRemoval s).now = s.now ∧ (completeRemoval s).pending = s.pending ∧ (completeRemoval s).pins = s.pins ∧
    (completeRemoval s).bi.rate = s.bi.rate ∧ (completeRemoval s).bi.synced = s.bi.synced ∧
    (completeRemoval s).bi.idle = s.bi.idle ∧
    (completeRemoval s).bi.failRun = s.bi.failRun ∧ (completeRemoval s).bi.timerA = s.bi.timerA ∧
    (completeRemoval s).bi.timerB = s.bi.timerB ∧ (completeRemoval s).bi.identityCount = s.bi.identityCount ∧
    (completeRemoval s).bi.pulse = s.bi.pulse ∧ (completeRemoval s).bi.stats = s.bi.stats ∧
    (completeRemoval s).ro = s.ro ∧ (completeRemoval s).bu = s.bu ∧ (completeRemoval s).sup = s.sup ∧
    (completeRemoval s).sm = s.sm ∧ (completeRemoval s).lb = s.lb ∧ (completeRemoval s).lp.phase = s.lp.phase ∧
    (completeRemoval s).lp.result = s.lp.result ∧ (completeRemoval s).lp.sdo = s.lp.sdo ∧
    (completeRemoval s).lp.lostCommands = s.lp.lostCommands ∧ (completeRemoval s).lp.latched = s.lp.latched ∧
    (completeRemoval s).lp.mask = s.lp.mask ∧ (completeRemoval s).lp.powerCause = s.lp.powerCause ∧
    (completeRemoval s).lp.shedCauses = s.lp.shedCauses ∧ (completeRemoval s).lp.raiseCauses = s.lp.raiseCauses ∧
    (completeRemoval s).lp.fanCauses = s.lp.fanCauses ∧ (completeRemoval s).lp.busCauses = s.lp.busCauses ∧
    (completeRemoval s).lp.ejectCauses = s.lp.ejectCauses ∧ (completeRemoval s).lp.laneOutcome = s.lp.laneOutcome ∧
    (completeRemoval s).lp.laneSlot = s.lp.laneSlot ∧ (completeRemoval s).lp.mailQueue = s.lp.mailQueue ∧
    (completeRemoval s).lp.overflow = s.lp.overflow ∧ (completeRemoval s).lp.nextTag = s.lp.nextTag := by
  generalize h : completeRemoval s = t
  unfold completeRemoval at h
  try dsimp only at h
  subst h; simp

@[simp] theorem endGrace_frame (s : State) :
    (endGrace s).now = s.now ∧ (endGrace s).pending = s.pending ∧ (endGrace s).pins = s.pins ∧
    (endGrace s).bi.rate = s.bi.rate ∧ (endGrace s).bi.synced = s.bi.synced ∧ (endGrace s).bi.idle = s.bi.idle ∧
    (endGrace s).bi.mails = s.bi.mails ∧
    (endGrace s).bi.tx = s.bi.tx ∧ (endGrace s).bi.txState = s.bi.txState ∧ (endGrace s).bi.failRun = s.bi.failRun ∧
    (endGrace s).bi.mute = s.bi.mute ∧ (endGrace s).bi.timerA = s.bi.timerA ∧ (endGrace s).bi.timerB = s.bi.timerB ∧
    (endGrace s).bi.identityCount = s.bi.identityCount ∧ (endGrace s).bi.pulse = s.bi.pulse ∧
    (endGrace s).bi.stats = s.bi.stats ∧ (endGrace s).ro = s.ro ∧ (endGrace s).sup = s.sup ∧ (endGrace s).sm = s.sm ∧
    (endGrace s).fc = s.fc ∧ (endGrace s).lp.phase = s.lp.phase ∧ (endGrace s).lp.result = s.lp.result ∧
    (endGrace s).lp.sdo = s.lp.sdo ∧ (endGrace s).lp.lostCommands = s.lp.lostCommands ∧
    (endGrace s).lp.mask = s.lp.mask ∧ (endGrace s).lp.fanCauses = s.lp.fanCauses ∧
    (endGrace s).lp.busCauses = s.lp.busCauses ∧ (endGrace s).lp.ejectCauses = s.lp.ejectCauses ∧
    (endGrace s).lp.laneOutcome = s.lp.laneOutcome ∧ (endGrace s).lp.laneSlot = s.lp.laneSlot ∧
    (endGrace s).lp.mailQueue = s.lp.mailQueue ∧ (endGrace s).lp.overflow = s.lp.overflow ∧
    (endGrace s).lp.box0 = s.lp.box0 ∧ (endGrace s).lp.box1 = s.lp.box1 ∧ (endGrace s).lp.nextTag = s.lp.nextTag ∧
    (endGrace s).lp.lastFinal = s.lp.lastFinal := by
  generalize h : endGrace s = t
  unfold endGrace at h
  try dsimp only at h
  (repeat' split at h) <;> subst h <;> simp

@[simp] theorem claimingOff_frame (s : State) :
    (claimingOff s).now = s.now ∧ (claimingOff s).pending = s.pending ∧ (claimingOff s).pins = s.pins ∧
    (claimingOff s).lc = s.lc ∧ (claimingOff s).bi.rate = s.bi.rate ∧ (claimingOff s).bi.synced = s.bi.synced ∧
    (claimingOff s).bi.idle = s.bi.idle ∧
    (claimingOff s).bi.lanes = s.bi.lanes ∧ (claimingOff s).bi.mails = s.bi.mails ∧ (claimingOff s).bi.tx = s.bi.tx ∧
    (claimingOff s).bi.txState = s.bi.txState ∧ (claimingOff s).bi.failRun = s.bi.failRun ∧
    (claimingOff s).bi.mute = s.bi.mute ∧ (claimingOff s).bi.timerA = s.bi.timerA ∧
    (claimingOff s).bi.timerB = s.bi.timerB ∧ (claimingOff s).bi.identityCount = s.bi.identityCount ∧
    (claimingOff s).bi.pulse = s.bi.pulse ∧ (claimingOff s).bi.stats = s.bi.stats ∧ (claimingOff s).ro = s.ro ∧
    (claimingOff s).sup = s.sup ∧ (claimingOff s).sm = s.sm ∧ (claimingOff s).fc = s.fc ∧ (claimingOff s).lm = s.lm ∧
    (claimingOff s).lb = s.lb ∧ (claimingOff s).lp.phase = s.lp.phase ∧ (claimingOff s).lp.result = s.lp.result ∧
    (claimingOff s).lp.sdo = s.lp.sdo ∧ (claimingOff s).lp.lostCommands = s.lp.lostCommands ∧
    (claimingOff s).lp.mask = s.lp.mask ∧ (claimingOff s).lp.fanCauses = s.lp.fanCauses ∧
    (claimingOff s).lp.busCauses = s.lp.busCauses ∧ (claimingOff s).lp.ejectCauses = s.lp.ejectCauses ∧
    (claimingOff s).lp.laneOutcome = s.lp.laneOutcome ∧ (claimingOff s).lp.laneSlot = s.lp.laneSlot ∧
    (claimingOff s).lp.mailQueue = s.lp.mailQueue ∧ (claimingOff s).lp.overflow = s.lp.overflow ∧
    (claimingOff s).lp.box0 = s.lp.box0 ∧ (claimingOff s).lp.box1 = s.lp.box1 ∧
    (claimingOff s).lp.nextTag = s.lp.nextTag ∧ (claimingOff s).lp.lastFinal = s.lp.lastFinal := by
  generalize h : claimingOff s = t
  unfold claimingOff at h
  try dsimp only at h
  subst h; simp

@[simp] theorem finish_frame (s : State) :
    (finish s).now = s.now ∧ (finish s).pending = s.pending ∧ (finish s).pins = s.pins ∧
    (finish s).bi.rate = s.bi.rate ∧ (finish s).bi.synced = s.bi.synced ∧ (finish s).bi.failRun = s.bi.failRun ∧
    (finish s).bi.timerA = s.bi.timerA ∧
    (finish s).bi.timerB = s.bi.timerB ∧ (finish s).bi.identityCount = s.bi.identityCount ∧
    (finish s).bi.pulse = s.bi.pulse ∧ (finish s).bi.stats = s.bi.stats ∧ (finish s).ro = s.ro ∧
    (finish s).bu = s.bu ∧ (finish s).sup = s.sup ∧ (finish s).sm = s.sm ∧ (finish s).lp.phase = s.lp.phase ∧
    (finish s).lp.result = s.lp.result ∧ (finish s).lp.sdo = s.lp.sdo ∧
    (finish s).lp.lostCommands = s.lp.lostCommands ∧ (finish s).lp.latched = s.lp.latched ∧
    (finish s).lp.mask = s.lp.mask ∧ (finish s).lp.powerCause = s.lp.powerCause ∧
    (finish s).lp.shedCauses = s.lp.shedCauses ∧ (finish s).lp.raiseCauses = s.lp.raiseCauses ∧
    (finish s).lp.fanCauses = s.lp.fanCauses ∧ (finish s).lp.busCauses = s.lp.busCauses ∧
    (finish s).lp.ejectCauses = s.lp.ejectCauses ∧ (finish s).lp.laneOutcome = s.lp.laneOutcome ∧
    (finish s).lp.laneSlot = s.lp.laneSlot ∧ (finish s).lp.mailQueue = s.lp.mailQueue ∧
    (finish s).lp.overflow = s.lp.overflow ∧ (finish s).lp.nextTag = s.lp.nextTag := by
  generalize h : finish s = t
  unfold finish at h
  try dsimp only at h
  (repeat' split at h) <;> subst h <;> simp

@[simp] theorem consumerOpens_frame (s : State) :
    (consumerOpens s).now = s.now ∧ (consumerOpens s).pending = s.pending ∧ (consumerOpens s).pins = s.pins ∧
    (consumerOpens s).bi.rate = s.bi.rate ∧ (consumerOpens s).bi.synced = s.bi.synced ∧
    (consumerOpens s).bi.idle = s.bi.idle ∧
    (consumerOpens s).bi.failRun = s.bi.failRun ∧ (consumerOpens s).bi.timerA = s.bi.timerA ∧
    (consumerOpens s).bi.timerB = s.bi.timerB ∧ (consumerOpens s).bi.identityCount = s.bi.identityCount ∧
    (consumerOpens s).bi.pulse = s.bi.pulse ∧ (consumerOpens s).bi.stats = s.bi.stats ∧ (consumerOpens s).ro = s.ro ∧
    (consumerOpens s).sup = s.sup ∧ (consumerOpens s).sm = s.sm ∧ (consumerOpens s).lp.phase = s.lp.phase ∧
    (consumerOpens s).lp.result = s.lp.result ∧ (consumerOpens s).lp.sdo = s.lp.sdo ∧
    (consumerOpens s).lp.lostCommands = s.lp.lostCommands ∧ (consumerOpens s).lp.mask = s.lp.mask ∧
    (consumerOpens s).lp.fanCauses = s.lp.fanCauses ∧ (consumerOpens s).lp.busCauses = s.lp.busCauses ∧
    (consumerOpens s).lp.ejectCauses = s.lp.ejectCauses ∧ (consumerOpens s).lp.laneOutcome = s.lp.laneOutcome ∧
    (consumerOpens s).lp.laneSlot = s.lp.laneSlot ∧ (consumerOpens s).lp.mailQueue = s.lp.mailQueue ∧
    (consumerOpens s).lp.overflow = s.lp.overflow ∧ (consumerOpens s).lp.nextTag = s.lp.nextTag := by
  generalize h : consumerOpens s = t
  unfold consumerOpens at h
  try dsimp only at h
  (repeat' split at h) <;> subst h <;> simp

@[simp] theorem supplyOpens_frame (s : State) :
    (supplyOpens s).now = s.now ∧ (supplyOpens s).pending = s.pending ∧ (supplyOpens s).pins = s.pins ∧
    (supplyOpens s).bi.rate = s.bi.rate ∧ (supplyOpens s).bi.synced = s.bi.synced ∧
    (supplyOpens s).bi.idle = s.bi.idle ∧
    (supplyOpens s).bi.failRun = s.bi.failRun ∧ (supplyOpens s).bi.timerA = s.bi.timerA ∧
    (supplyOpens s).bi.timerB = s.bi.timerB ∧ (supplyOpens s).bi.identityCount = s.bi.identityCount ∧
    (supplyOpens s).bi.pulse = s.bi.pulse ∧ (supplyOpens s).bi.stats = s.bi.stats ∧ (supplyOpens s).ro = s.ro ∧
    (supplyOpens s).sm = s.sm ∧ (supplyOpens s).lb = s.lb ∧ (supplyOpens s).lp.phase = s.lp.phase ∧
    (supplyOpens s).lp.result = s.lp.result ∧ (supplyOpens s).lp.sdo = s.lp.sdo ∧
    (supplyOpens s).lp.lostCommands = s.lp.lostCommands ∧ (supplyOpens s).lp.mask = s.lp.mask ∧
    (supplyOpens s).lp.fanCauses = s.lp.fanCauses ∧ (supplyOpens s).lp.busCauses = s.lp.busCauses ∧
    (supplyOpens s).lp.ejectCauses = s.lp.ejectCauses ∧ (supplyOpens s).lp.laneOutcome = s.lp.laneOutcome ∧
    (supplyOpens s).lp.laneSlot = s.lp.laneSlot ∧ (supplyOpens s).lp.mailQueue = s.lp.mailQueue ∧
    (supplyOpens s).lp.overflow = s.lp.overflow ∧ (supplyOpens s).lp.nextTag = s.lp.nextTag := by
  generalize h : supplyOpens s = t
  unfold supplyOpens at h
  try dsimp only at h
  (repeat' split at h) <;> subst h <;> simp

@[simp] theorem opensEarly_frame (s : State) :
    (opensEarly s).now = s.now ∧ (opensEarly s).pending = s.pending ∧ (opensEarly s).pins = s.pins ∧
    (opensEarly s).bi = s.bi ∧ (opensEarly s).ro = s.ro ∧ (opensEarly s).bu = s.bu ∧ (opensEarly s).ps = s.ps ∧
    (opensEarly s).sm = s.sm ∧ (opensEarly s).fc = s.fc ∧ (opensEarly s).lm = s.lm ∧ (opensEarly s).lb = s.lb ∧
    (opensEarly s).lp = s.lp := by
  generalize h : opensEarly s = t
  unfold opensEarly at h
  try dsimp only at h
  (repeat' split at h) <;> subst h <;> simp

@[simp] theorem handleOpens_frame (s : State) :
    (handleOpens s).now = s.now ∧ (handleOpens s).pending = s.pending ∧ (handleOpens s).pins = s.pins ∧
    (handleOpens s).bi.rate = s.bi.rate ∧ (handleOpens s).bi.synced = s.bi.synced ∧
    (handleOpens s).bi.idle = s.bi.idle ∧
    (handleOpens s).bi.failRun = s.bi.failRun ∧ (handleOpens s).bi.timerA = s.bi.timerA ∧
    (handleOpens s).bi.timerB = s.bi.timerB ∧ (handleOpens s).bi.identityCount = s.bi.identityCount ∧
    (handleOpens s).bi.pulse = s.bi.pulse ∧ (handleOpens s).bi.stats = s.bi.stats ∧ (handleOpens s).ro = s.ro ∧
    (handleOpens s).sm = s.sm ∧ (handleOpens s).lp.phase = s.lp.phase ∧ (handleOpens s).lp.result = s.lp.result ∧
    (handleOpens s).lp.sdo = s.lp.sdo ∧ (handleOpens s).lp.lostCommands = s.lp.lostCommands ∧
    (handleOpens s).lp.mask = s.lp.mask ∧ (handleOpens s).lp.fanCauses = s.lp.fanCauses ∧
    (handleOpens s).lp.busCauses = s.lp.busCauses ∧ (handleOpens s).lp.ejectCauses = s.lp.ejectCauses ∧
    (handleOpens s).lp.laneOutcome = s.lp.laneOutcome ∧ (handleOpens s).lp.laneSlot = s.lp.laneSlot ∧
    (handleOpens s).lp.mailQueue = s.lp.mailQueue ∧ (handleOpens s).lp.overflow = s.lp.overflow ∧
    (handleOpens s).lp.nextTag = s.lp.nextTag := by
  generalize h : handleOpens s = t
  unfold handleOpens at h
  try dsimp only at h
  (repeat' split at h) <;> subst h <;> simp

@[simp] theorem repostGrants_frame (ts : List Nat) (s : State) :
    (repostGrants ts s).now = s.now ∧ (repostGrants ts s).pending = s.pending ∧ (repostGrants ts s).pins = s.pins ∧
    (repostGrants ts s).lc = s.lc ∧ (repostGrants ts s).bi.rate = s.bi.rate ∧
    (repostGrants ts s).bi.synced = s.bi.synced ∧
    (repostGrants ts s).bi.idle = s.bi.idle ∧ (repostGrants ts s).bi.kinds = s.bi.kinds ∧
    (repostGrants ts s).bi.mails = s.bi.mails ∧ (repostGrants ts s).bi.tx = s.bi.tx ∧
    (repostGrants ts s).bi.txState = s.bi.txState ∧ (repostGrants ts s).bi.failRun = s.bi.failRun ∧
    (repostGrants ts s).bi.mute = s.bi.mute ∧ (repostGrants ts s).bi.timerA = s.bi.timerA ∧
    (repostGrants ts s).bi.timerB = s.bi.timerB ∧ (repostGrants ts s).bi.identityCount = s.bi.identityCount ∧
    (repostGrants ts s).bi.pulse = s.bi.pulse ∧ (repostGrants ts s).bi.stats = s.bi.stats ∧
    (repostGrants ts s).ro = s.ro ∧ (repostGrants ts s).bu = s.bu ∧ (repostGrants ts s).ps = s.ps ∧
    (repostGrants ts s).sup = s.sup ∧ (repostGrants ts s).sm = s.sm ∧ (repostGrants ts s).fc = s.fc ∧
    (repostGrants ts s).lb = s.lb ∧ (repostGrants ts s).lp = s.lp := by
  induction ts generalizing s with
  | nil => simp [repostGrants]
  | cons t ts ih => unfold repostGrants; split <;> simp [ih]

@[simp] theorem repostReleases_frame (us : List Nat) (s : State) :
    (repostReleases us s).now = s.now ∧ (repostReleases us s).pending = s.pending ∧
    (repostReleases us s).pins = s.pins ∧ (repostReleases us s).lc = s.lc ∧
    (repostReleases us s).bi.rate = s.bi.rate ∧ (repostReleases us s).bi.synced = s.bi.synced ∧
    (repostReleases us s).bi.idle = s.bi.idle ∧
    (repostReleases us s).bi.kinds = s.bi.kinds ∧ (repostReleases us s).bi.mails = s.bi.mails ∧
    (repostReleases us s).bi.tx = s.bi.tx ∧ (repostReleases us s).bi.txState = s.bi.txState ∧
    (repostReleases us s).bi.failRun = s.bi.failRun ∧ (repostReleases us s).bi.mute = s.bi.mute ∧
    (repostReleases us s).bi.timerA = s.bi.timerA ∧ (repostReleases us s).bi.timerB = s.bi.timerB ∧
    (repostReleases us s).bi.identityCount = s.bi.identityCount ∧ (repostReleases us s).bi.pulse = s.bi.pulse ∧
    (repostReleases us s).bi.stats = s.bi.stats ∧ (repostReleases us s).ro = s.ro ∧ (repostReleases us s).bu = s.bu ∧
    (repostReleases us s).ps = s.ps ∧ (repostReleases us s).sup = s.sup ∧ (repostReleases us s).sm = s.sm ∧
    (repostReleases us s).fc = s.fc ∧ (repostReleases us s).lm = s.lm ∧ (repostReleases us s).lp = s.lp := by
  induction us generalizing s with
  | nil => simp [repostReleases]
  | cons u us ih => unfold repostReleases; (repeat' split) <;> simp [ih]

@[simp] theorem rejoin_frame (s : State) :
    (rejoin s).now = s.now ∧ (rejoin s).pending = s.pending ∧ (rejoin s).pins = s.pins ∧
    (rejoin s).bi.rate = s.bi.rate ∧ (rejoin s).bi.synced = s.bi.synced ∧ (rejoin s).bi.idle = s.bi.idle ∧
    (rejoin s).bi.mails = s.bi.mails ∧
    (rejoin s).bi.tx = s.bi.tx ∧ (rejoin s).bi.mute = s.bi.mute ∧ (rejoin s).bi.timerA = s.bi.timerA ∧
    (rejoin s).bi.timerB = s.bi.timerB ∧ (rejoin s).bi.pulse = s.bi.pulse ∧ (rejoin s).bi.stats = s.bi.stats ∧
    (rejoin s).ro = s.ro ∧ (rejoin s).sm = s.sm ∧ (rejoin s).lp.phase = s.lp.phase ∧
    (rejoin s).lp.result = s.lp.result ∧ (rejoin s).lp.sdo = s.lp.sdo ∧
    (rejoin s).lp.lostCommands = s.lp.lostCommands ∧ (rejoin s).lp.mask = s.lp.mask ∧
    (rejoin s).lp.fanCauses = s.lp.fanCauses ∧ (rejoin s).lp.busCauses = s.lp.busCauses ∧
    (rejoin s).lp.ejectCauses = s.lp.ejectCauses ∧ (rejoin s).lp.laneOutcome = s.lp.laneOutcome ∧
    (rejoin s).lp.laneSlot = s.lp.laneSlot ∧ (rejoin s).lp.mailQueue = s.lp.mailQueue ∧
    (rejoin s).lp.overflow = s.lp.overflow ∧ (rejoin s).lp.box0 = s.lp.box0 ∧ (rejoin s).lp.box1 = s.lp.box1 ∧
    (rejoin s).lp.nextTag = s.lp.nextTag ∧ (rejoin s).lp.lastFinal = s.lp.lastFinal := by
  generalize h : rejoin s = t
  unfold rejoin at h
  try dsimp only at h
  subst h; simp

@[simp] theorem unseatedPath_frame (s : State) :
    (unseatedPath s).now = s.now ∧ (unseatedPath s).pending = s.pending ∧ (unseatedPath s).pins = s.pins ∧
    (unseatedPath s).lc = s.lc ∧ (unseatedPath s).bi.rate = s.bi.rate ∧ (unseatedPath s).bi.synced = s.bi.synced ∧
    (unseatedPath s).bi.idle = s.bi.idle ∧
    (unseatedPath s).bi.mails = s.bi.mails ∧ (unseatedPath s).bi.tx = s.bi.tx ∧
    (unseatedPath s).bi.txState = s.bi.txState ∧ (unseatedPath s).bi.failRun = s.bi.failRun ∧
    (unseatedPath s).bi.mute = s.bi.mute ∧ (unseatedPath s).bi.timerA = s.bi.timerA ∧
    (unseatedPath s).bi.timerB = s.bi.timerB ∧ (unseatedPath s).bi.identityCount = s.bi.identityCount ∧
    (unseatedPath s).bi.pulse = s.bi.pulse ∧ (unseatedPath s).bi.stats = s.bi.stats ∧ (unseatedPath s).ro = s.ro ∧
    (unseatedPath s).sm = s.sm ∧ (unseatedPath s).lp.phase = s.lp.phase ∧ (unseatedPath s).lp.result = s.lp.result ∧
    (unseatedPath s).lp.sdo = s.lp.sdo ∧ (unseatedPath s).lp.lostCommands = s.lp.lostCommands ∧
    (unseatedPath s).lp.mask = s.lp.mask ∧ (unseatedPath s).lp.fanCauses = s.lp.fanCauses ∧
    (unseatedPath s).lp.busCauses = s.lp.busCauses ∧ (unseatedPath s).lp.ejectCauses = s.lp.ejectCauses ∧
    (unseatedPath s).lp.laneOutcome = s.lp.laneOutcome ∧ (unseatedPath s).lp.laneSlot = s.lp.laneSlot ∧
    (unseatedPath s).lp.mailQueue = s.lp.mailQueue ∧ (unseatedPath s).lp.overflow = s.lp.overflow ∧
    (unseatedPath s).lp.box0 = s.lp.box0 ∧ (unseatedPath s).lp.box1 = s.lp.box1 ∧
    (unseatedPath s).lp.nextTag = s.lp.nextTag ∧ (unseatedPath s).lp.lastFinal = s.lp.lastFinal := by
  generalize h : unseatedPath s = t
  unfold unseatedPath at h
  try dsimp only at h
  (repeat' split at h) <;> subst h <;> simp

@[simp] theorem listenMore_frame (s : State) :
    (listenMore s).now = s.now ∧ (listenMore s).pending = s.pending ∧ (listenMore s).pins = s.pins ∧
    (listenMore s).bi.rate = s.bi.rate ∧ (listenMore s).bi.synced = s.bi.synced ∧
    (listenMore s).bi.idle = s.bi.idle ∧ (listenMore s).bi.lanes = s.bi.lanes ∧
    (listenMore s).bi.mails = s.bi.mails ∧ (listenMore s).bi.tx = s.bi.tx ∧ (listenMore s).bi.mute = s.bi.mute ∧
    (listenMore s).bi.pulse = s.bi.pulse ∧ (listenMore s).bi.stats = s.bi.stats ∧ (listenMore s).sm = s.sm ∧
    (listenMore s).fc = s.fc ∧ (listenMore s).lm = s.lm ∧ (listenMore s).lb = s.lb ∧
    (listenMore s).lp.phase = s.lp.phase ∧ (listenMore s).lp.result = s.lp.result ∧
    (listenMore s).lp.sdo = s.lp.sdo ∧ (listenMore s).lp.lostCommands = s.lp.lostCommands ∧
    (listenMore s).lp.fanCauses = s.lp.fanCauses ∧ (listenMore s).lp.busCauses = s.lp.busCauses ∧
    (listenMore s).lp.ejectCauses = s.lp.ejectCauses ∧ (listenMore s).lp.laneOutcome = s.lp.laneOutcome ∧
    (listenMore s).lp.laneSlot = s.lp.laneSlot ∧ (listenMore s).lp.mailQueue = s.lp.mailQueue ∧
    (listenMore s).lp.overflow = s.lp.overflow ∧ (listenMore s).lp.box0 = s.lp.box0 ∧
    (listenMore s).lp.box1 = s.lp.box1 ∧ (listenMore s).lp.nextTag = s.lp.nextTag ∧
    (listenMore s).lp.lastFinal = s.lp.lastFinal := by
  generalize h : listenMore s = t
  unfold listenMore at h
  try dsimp only at h
  (repeat' split at h) <;> subst h <;> simp

@[simp] theorem countFrame_frame (k n : Nat) (s : State) :
    (countFrame k n s).now = s.now ∧ (countFrame k n s).pending = s.pending ∧ (countFrame k n s).pins = s.pins ∧
    (countFrame k n s).lc = s.lc ∧ (countFrame k n s).bi.rate = s.bi.rate ∧
    (countFrame k n s).bi.synced = s.bi.synced ∧ (countFrame k n s).bi.idle = s.bi.idle ∧
    (countFrame k n s).bi.kinds = s.bi.kinds ∧ (countFrame k n s).bi.lanes = s.bi.lanes ∧
    (countFrame k n s).bi.mails = s.bi.mails ∧ (countFrame k n s).bi.tx = s.bi.tx ∧
    (countFrame k n s).bi.txState = s.bi.txState ∧ (countFrame k n s).bi.failRun = s.bi.failRun ∧
    (countFrame k n s).bi.mute = s.bi.mute ∧ (countFrame k n s).bi.timerA = s.bi.timerA ∧
    (countFrame k n s).bi.timerB = s.bi.timerB ∧ (countFrame k n s).bi.identityCount = s.bi.identityCount ∧
    (countFrame k n s).bi.pulse = s.bi.pulse ∧ (countFrame k n s).ro = s.ro ∧ (countFrame k n s).bu = s.bu ∧
    (countFrame k n s).ps = s.ps ∧ (countFrame k n s).sup = s.sup ∧ (countFrame k n s).sm = s.sm ∧
    (countFrame k n s).fc = s.fc ∧ (countFrame k n s).lm = s.lm ∧ (countFrame k n s).lb = s.lb ∧
    (countFrame k n s).lp = s.lp := by
  generalize h : countFrame k n s = t
  unfold countFrame at h
  try dsimp only at h
  subst h; simp

end Sys2Proof.Machine
end

