-- ==== Sys2Proof/Laws/Outboxes.lean ====
section
/-! SUPPORT. The lane outbox (R28): every operation keeps it within four entries. -/

namespace Sys2Proof.Machine

theorem within_iff {α : Type} (k : Nat) (q : List α) : within k q = true ↔ q.length ≤ k := by
  simp [within]

@[simp] theorem within_nil {α : Type} (k : Nat) : within k ([] : List α) = true := by
  simp [within]

@[simp] theorem within_map {α β : Type} (k : Nat) (f : α → β) (q : List α) : within k (q.map f) = within k q := by
  simp [within]

@[simp] theorem within_filter {α : Type} (k : Nat) (f : α → Bool) (q : List α) (h : within k q = true) :
    within k (q.filter f) = true := by
  rw [within_iff] at *
  exact Nat.le_trans (List.length_filter_le f q) h

@[simp] theorem within_drop {α : Type} (k n : Nat) (q : List α) (h : within k q = true) : within k (q.drop n) = true := by
  rw [within_iff] at *
  simp only [List.length_drop]
  omega

@[simp] theorem within_tail {α : Type} (k : Nat) (q : List α) (h : within k q = true) : within k q.tail = true := by
  rw [within_iff] at *
  simp only [List.length_tail]
  omega

theorem within_append {α : Type} (k : Nat) (a : α) (q : List α) (h : q.length < k) : within k (q ++ [a]) = true := by
  rw [within_iff]
  simp only [List.length_append, List.length_cons, List.length_nil]
  omega

@[simp] theorem within_dropLaneEntry (f : LaneEntry → Bool) (es : List LaneEntry) (k : Nat) (h : within k es = true) :
    within k (dropLaneEntry f es) = true := by
  rw [within_iff] at *
  refine Nat.le_trans ?_ h
  clear h
  induction es with
  | nil => simp [dropLaneEntry]
  | cons e t ih =>
    simp only [dropLaneEntry]
    split <;> simp only [List.length_cons] <;> omega

@[simp] theorem within_changeLaneEntry (f : LaneEntry → Bool) (g : LaneEntry → LaneEntry) (es : List LaneEntry)
    (k : Nat) : within k (changeLaneEntry f g es) = within k es := by
  have h : (changeLaneEntry f g es).length = es.length := by
    induction es with
    | nil => rfl
    | cons e t ih =>
      simp only [changeLaneEntry]
      split <;> simp [ih]
  simp [within, h]

theorem laneRoom_bound {s : State} (h : s.laneRoom = true) : s.bi.lanes.length < Config.laneOutbox := by
  simp only [State.laneRoom, Bool.and_eq_true, decide_eq_true_eq] at h
  exact h.2

/-! ## Every operation keeps the lane outbox within its four entries -/

@[simp] theorem postGrant_outbox (n : Nat) (s : State) (h0 : within Config.laneOutbox s.bi.lanes = true) :
    within Config.laneOutbox (postGrant n s).bi.lanes = true := by
  unfold postGrant
  split
  · exact h0
  · split
    · next h => simpa using within_append _ _ _ (laneRoom_bound h)
    · simp [h0]

@[simp] theorem answer_outbox (n : Nat) (a : Answer) (s : State) (h0 : within Config.laneOutbox s.bi.lanes = true) :
    within Config.laneOutbox (answer n a s).bi.lanes = true := by
  generalize h : answer n a s = t
  unfold answer at h
  try dsimp only at h
  (repeat' split at h) <;> subst h <;> simp (maxDischargeDepth := 12) [h0]

@[simp] theorem postBlade_outbox (k : LaneKind) (n : Nat) (s : State) (h0 : within Config.laneOutbox s.bi.lanes = true) :
    within Config.laneOutbox (postBlade k n s).bi.lanes = true := by
  unfold postBlade
  split
  · exact h0
  · split
    · exact h0
    · split
      · next h => simpa using within_append _ _ _ (laneRoom_bound h)
      · simp [h0]

@[simp] theorem laneFreed_outbox (s : State) (h0 : within Config.laneOutbox s.bi.lanes = true) :
    within Config.laneOutbox (laneFreed s).bi.lanes = true := by
  generalize h : laneFreed s = t
  unfold laneFreed at h
  try dsimp only at h
  (repeat' split at h) <;> subst h <;> simp (maxDischargeDepth := 12) [h0]

@[simp] theorem State.beginTx_outbox (s : State) (c : Choice) (p : List Byte) (h0 : within Config.laneOutbox s.bi.lanes = true) :
    within Config.laneOutbox (s.beginTx c p).bi.lanes = true := by
  generalize h : s.beginTx c p = t
  unfold State.beginTx at h
  try dsimp only at h
  (repeat' split at h) <;> subst h <;> simp (maxDischargeDepth := 12) [h0]

@[simp] theorem State.emptyChoice_outbox (s : State) (c : Choice) (h0 : within Config.laneOutbox s.bi.lanes = true) :
    within Config.laneOutbox (s.emptyChoice c).bi.lanes = true := by
  generalize h : s.emptyChoice c = t
  unfold State.emptyChoice at h
  try dsimp only at h
  (repeat' split at h) <;> subst h <;> simp (maxDischargeDepth := 12) [h0]

@[simp] theorem startLoop_outbox (n : Nat) (s : State) (h0 : within Config.laneOutbox s.bi.lanes = true) :
    within Config.laneOutbox (startLoop n s).bi.lanes = true := by
  induction n generalizing s with
  | zero => simp (maxDischargeDepth := 12) [startLoop, h0]
  | succ n ih => unfold startLoop; (repeat' split) <;> simp (maxDischargeDepth := 12) [ih, h0]

@[simp] theorem startFrame_outbox (s : State) (h0 : within Config.laneOutbox s.bi.lanes = true) :
    within Config.laneOutbox (startFrame s).bi.lanes = true := by
  generalize h : startFrame s = t
  unfold startFrame at h
  try dsimp only at h
  (repeat' split at h) <;> subst h <;> simp (maxDischargeDepth := 12) [h0]

@[simp] theorem laneSent_outbox (e : LaneEntry) (s : State) (h0 : within Config.laneOutbox s.bi.lanes = true) :
    within Config.laneOutbox (laneSent e s).bi.lanes = true := by
  generalize h : laneSent e s = t
  unfold laneSent at h
  try dsimp only at h
  (repeat' split at h) <;> subst h <;> simp (maxDischargeDepth := 12) [h0]

@[simp] theorem endLane_outbox (e : Ending) (d : Bool) (s : State) (h0 : within Config.laneOutbox s.bi.lanes = true) :
    within Config.laneOutbox (endLane e d s).bi.lanes = true := by
  generalize h : endLane e d s = t
  unfold endLane at h
  try dsimp only at h
  (repeat' split at h) <;> subst h <;> simp (maxDischargeDepth := 12) [h0]

@[simp] theorem endTx_outbox (t : Tx) (e : Ending) (s : State) (h0 : within Config.laneOutbox s.bi.lanes = true) :
    within Config.laneOutbox (endTx t e s).bi.lanes = true := by
  generalize h : endTx t e s = t
  unfold endTx at h
  try dsimp only at h
  (repeat' split at h) <;> subst h <;> simp (maxDischargeDepth := 12) [h0]

@[simp] theorem emptyOutbound_outbox (s : State) (h0 : within Config.laneOutbox s.bi.lanes = true) :
    within Config.laneOutbox (emptyOutbound s).bi.lanes = true := by
  generalize h : emptyOutbound s = t
  unfold emptyOutbound at h
  try dsimp only at h
  (repeat' split at h) <;> subst h <;> simp (maxDischargeDepth := 12) [h0]

@[simp] theorem cutOutbound_outbox (s : State) (h0 : within Config.laneOutbox s.bi.lanes = true) :
    within Config.laneOutbox (cutOutbound s).bi.lanes = true := by
  generalize h : cutOutbound s = t
  unfold cutOutbound at h
  try dsimp only at h
  (repeat' split at h) <;> subst h <;> simp (maxDischargeDepth := 12) [h0]

@[simp] theorem answerAll_outbox (a : Answer) (ts : List Nat) (s : State) (h0 : within Config.laneOutbox s.bi.lanes = true) :
    within Config.laneOutbox (answerAll a ts s).bi.lanes = true := by
  induction ts generalizing s with
  | nil => simp (maxDischargeDepth := 12) [answerAll, h0]
  | cons t ts ih => simp (maxDischargeDepth := 12) [answerAll, ih, h0]

@[simp] theorem giveUpLanes_outbox (a b : Answer) (s : State) (h0 : within Config.laneOutbox s.bi.lanes = true) :
    within Config.laneOutbox (giveUpLanes a b s).bi.lanes = true := by
  generalize h : giveUpLanes a b s = t
  unfold giveUpLanes at h
  try dsimp only at h
  (repeat' split at h) <;> subst h <;> simp (maxDischargeDepth := 12) [h0]

@[simp] theorem ownShed_outbox (s : State) (h0 : within Config.laneOutbox s.bi.lanes = true) :
    within Config.laneOutbox (ownShed s).bi.lanes = true := by
  generalize h : ownShed s = t
  unfold ownShed at h
  try dsimp only at h
  (repeat' split at h) <;> subst h <;> simp (maxDischargeDepth := 12) [h0]

@[simp] theorem releaseRecord_outbox (n : Nat) (s : State) (h0 : within Config.laneOutbox s.bi.lanes = true) :
    within Config.laneOutbox (releaseRecord n s).bi.lanes = true := by
  generalize h : releaseRecord n s = t
  unfold releaseRecord at h
  try dsimp only at h
  (repeat' split at h) <;> subst h <;> simp (maxDischargeDepth := 12) [h0]

@[simp] theorem releaseRecords_outbox (us : List Nat) (s : State) (h0 : within Config.laneOutbox s.bi.lanes = true) :
    within Config.laneOutbox (releaseRecords us s).bi.lanes = true := by
  induction us generalizing s with
  | nil => simp (maxDischargeDepth := 12) [releaseRecords, h0]
  | cons u us ih => simp (maxDischargeDepth := 12) [releaseRecords, ih, h0]

@[simp] theorem leavingOn_outbox (r : LaneReason) (s : State) (h0 : within Config.laneOutbox s.bi.lanes = true) :
    within Config.laneOutbox (leavingOn r s).bi.lanes = true := by
  generalize h : leavingOn r s = t
  unfold leavingOn at h
  try dsimp only at h
  (repeat' split at h) <;> subst h <;> simp (maxDischargeDepth := 12) [h0]

@[simp] theorem faultPath_outbox (r : OffReason) (c : PowerCause) (s : State) (h0 : within Config.laneOutbox s.bi.lanes = true) :
    within Config.laneOutbox (faultPath r c s).bi.lanes = true := by
  generalize h : faultPath r c s = t
  unfold faultPath at h
  try dsimp only at h
  (repeat' split at h) <;> subst h <;> simp (maxDischargeDepth := 12) [h0]

@[simp] theorem powerOffPath_outbox (s : State) (h0 : within Config.laneOutbox s.bi.lanes = true) :
    within Config.laneOutbox (powerOffPath s).bi.lanes = true := by
  generalize h : powerOffPath s = t
  unfold powerOffPath at h
  try dsimp only at h
  (repeat' split at h) <;> subst h <;> simp (maxDischargeDepth := 12) [h0]

@[simp] theorem forcedOff_outbox (c : ShedCause) (s : State) (h0 : within Config.laneOutbox s.bi.lanes = true) :
    within Config.laneOutbox (forcedOff c s).bi.lanes = true := by
  generalize h : forcedOff c s = t
  unfold forcedOff at h
  try dsimp only at h
  (repeat' split at h) <;> subst h <;> simp (maxDischargeDepth := 12) [h0]

@[simp] theorem stoppingFall_outbox (c : ShedCause) (s : State) (h0 : within Config.laneOutbox s.bi.lanes = true) :
    within Config.laneOutbox (stoppingFall c s).bi.lanes = true := by
  generalize h : stoppingFall c s = t
  unfold stoppingFall at h
  try dsimp only at h
  (repeat' split at h) <;> subst h <;> simp (maxDischargeDepth := 12) [h0]

@[simp] theorem dropToFloor_outbox (c : ShedCause) (s : State) (h0 : within Config.laneOutbox s.bi.lanes = true) :
    within Config.laneOutbox (dropToFloor c s).bi.lanes = true := by
  generalize h : dropToFloor c s = t
  unfold dropToFloor at h
  try dsimp only at h
  (repeat' split at h) <;> subst h <;> simp (maxDischargeDepth := 12) [h0]

@[simp] theorem lossAtRest_outbox (s : State) (h0 : within Config.laneOutbox s.bi.lanes = true) :
    within Config.laneOutbox (lossAtRest s).bi.lanes = true := by
  generalize h : lossAtRest s = t
  unfold lossAtRest at h
  try dsimp only at h
  (repeat' split at h) <;> subst h <;> simp (maxDischargeDepth := 12) [h0]

@[simp] theorem endLevelRaise_outbox (c d : ShedCause) (b : Bool) (s : State) (h0 : within Config.laneOutbox s.bi.lanes = true) :
    within Config.laneOutbox (endLevelRaise c d b s).bi.lanes = true := by
  generalize h : endLevelRaise c d b s = t
  unfold endLevelRaise at h
  try dsimp only at h
  (repeat' split at h) <;> subst h <;> simp (maxDischargeDepth := 12) [h0]

@[simp] theorem failAmountRaise_outbox (s : State) (h0 : within Config.laneOutbox s.bi.lanes = true) :
    within Config.laneOutbox (failAmountRaise s).bi.lanes = true := by
  generalize h : failAmountRaise s = t
  unfold failAmountRaise at h
  try dsimp only at h
  (repeat' split at h) <;> subst h <;> simp (maxDischargeDepth := 12) [h0]

@[simp] theorem lookRaise_outbox (s : State) (h0 : within Config.laneOutbox s.bi.lanes = true) :
    within Config.laneOutbox (lookRaise s).bi.lanes = true := by
  generalize h : lookRaise s = t
  unfold lookRaise at h
  try dsimp only at h
  (repeat' split at h) <;> subst h <;> simp (maxDischargeDepth := 12) [h0]

@[simp] theorem shedAct_outbox (c : ShedCause) (s : State) (h0 : within Config.laneOutbox s.bi.lanes = true) :
    within Config.laneOutbox (shedAct c s).bi.lanes = true := by
  generalize h : shedAct c s = t
  unfold shedAct at h
  try dsimp only at h
  (repeat' split at h) <;> subst h <;> simp (maxDischargeDepth := 12) [h0]

@[simp] theorem stalePath_outbox (s : State) (h0 : within Config.laneOutbox s.bi.lanes = true) :
    within Config.laneOutbox (stalePath s).bi.lanes = true := by
  generalize h : stalePath s = t
  unfold stalePath at h
  try dsimp only at h
  (repeat' split at h) <;> subst h <;> simp (maxDischargeDepth := 12) [h0]

@[simp] theorem staleCleared_outbox (s : State) (h0 : within Config.laneOutbox s.bi.lanes = true) :
    within Config.laneOutbox (staleCleared s).bi.lanes = true := by
  generalize h : staleCleared s = t
  unfold staleCleared at h
  try dsimp only at h
  (repeat' split at h) <;> subst h <;> simp (maxDischargeDepth := 12) [h0]

@[simp] theorem rewriteLanes_outbox (s : State) (h0 : within Config.laneOutbox s.bi.lanes = true) :
    within Config.laneOutbox (rewriteLanes s).bi.lanes = true := by
  generalize h : rewriteLanes s = t
  unfold rewriteLanes at h
  try dsimp only at h
  (repeat' split at h) <;> subst h <;> simp (maxDischargeDepth := 12) [h0]

@[simp] theorem serve_outbox (r : Request) (q : List Request) (s : State) (h0 : within Config.laneOutbox s.bi.lanes = true) :
    within Config.laneOutbox (serve r q s).bi.lanes = true := by
  generalize h : serve r q s = t
  unfold serve at h
  try dsimp only at h
  (repeat' split at h) <;> subst h <;> simp (maxDischargeDepth := 12) [h0]

@[simp] theorem reservationFails_outbox (s : State) (h0 : within Config.laneOutbox s.bi.lanes = true) :
    within Config.laneOutbox (reservationFails s).bi.lanes = true := by
  generalize h : reservationFails s = t
  unfold reservationFails at h
  try dsimp only at h
  (repeat' split at h) <;> subst h <;> simp (maxDischargeDepth := 12) [h0]

@[simp] theorem arbiterLoop_outbox (n : Nat) (s : State) (h0 : within Config.laneOutbox s.bi.lanes = true) :
    within Config.laneOutbox (arbiterLoop n s).bi.lanes = true := by
  induction n generalizing s with
  | zero => simp (maxDischargeDepth := 12) [arbiterLoop, h0]
  | succ n ih => unfold arbiterLoop; dsimp only; (repeat' split) <;> simp (maxDischargeDepth := 12) [ih, h0]

@[simp] theorem arbiter_outbox (s : State) (h0 : within Config.laneOutbox s.bi.lanes = true) :
    within Config.laneOutbox (arbiter s).bi.lanes = true := by
  generalize h : arbiter s = t
  unfold arbiter at h
  try dsimp only at h
  (repeat' split at h) <;> subst h <;> simp (maxDischargeDepth := 12) [h0]

@[simp] theorem roundLoop_outbox (n : Nat) (s : State) (h0 : within Config.laneOutbox s.bi.lanes = true) :
    within Config.laneOutbox (roundLoop n s).bi.lanes = true := by
  induction n generalizing s with
  | zero => simp (maxDischargeDepth := 12) [roundLoop, h0]
  | succ n ih => unfold roundLoop; dsimp only; (repeat' split) <;> simp (maxDischargeDepth := 12) [ih, h0]

@[simp] theorem arbiterRound_outbox (s : State) (h0 : within Config.laneOutbox s.bi.lanes = true) :
    within Config.laneOutbox (arbiterRound s).bi.lanes = true := by
  generalize h : arbiterRound s = t
  unfold arbiterRound at h
  try dsimp only at h
  (repeat' split at h) <;> subst h <;> simp (maxDischargeDepth := 12) [h0]

@[simp] theorem reservationEnds_outbox (s : State) (h0 : within Config.laneOutbox s.bi.lanes = true) :
    within Config.laneOutbox (reservationEnds s).bi.lanes = true := by
  generalize h : reservationEnds s = t
  unfold reservationEnds at h
  try dsimp only at h
  (repeat' split at h) <;> subst h <;> simp (maxDischargeDepth := 12) [h0]

@[simp] theorem enterOn_outbox (s : State) (h0 : within Config.laneOutbox s.bi.lanes = true) :
    within Config.laneOutbox (enterOn s).bi.lanes = true := by
  generalize h : enterOn s = t
  unfold enterOn at h
  try dsimp only at h
  (repeat' split at h) <;> subst h <;> simp (maxDischargeDepth := 12) [h0]

@[simp] theorem enterEnabling_outbox (s : State) (h0 : within Config.laneOutbox s.bi.lanes = true) :
    within Config.laneOutbox (enterEnabling s).bi.lanes = true := by
  generalize h : enterEnabling s = t
  unfold enterEnabling at h
  try dsimp only at h
  (repeat' split at h) <;> subst h <;> simp (maxDischargeDepth := 12) [h0]

@[simp] theorem psLoss_outbox (s : State) (h0 : within Config.laneOutbox s.bi.lanes = true) :
    within Config.laneOutbox (psLoss s).bi.lanes = true := by
  generalize h : psLoss s = t
  unfold psLoss at h
  try dsimp only at h
  (repeat' split at h) <;> subst h <;> simp (maxDischargeDepth := 12) [h0]

@[simp] theorem psAdmitted_outbox (s : State) (h0 : within Config.laneOutbox s.bi.lanes = true) :
    within Config.laneOutbox (psAdmitted s).bi.lanes = true := by
  generalize h : psAdmitted s = t
  unfold psAdmitted at h
  try dsimp only at h
  (repeat' split at h) <;> subst h <;> simp (maxDischargeDepth := 12) [h0]

@[simp] theorem noticed_outbox (f : State → State) (s : State) (h0 : within Config.laneOutbox (f s).bi.lanes = true) :
    within Config.laneOutbox (noticed f s).bi.lanes = true := by
  generalize h : noticed f s = t
  unfold noticed at h
  try dsimp only at h
  (repeat' split at h) <;> subst h <;> simp (maxDischargeDepth := 12) [h0]

@[simp] theorem takeRelease_outbox (n : Nat) (s : State) (h0 : within Config.laneOutbox s.bi.lanes = true) :
    within Config.laneOutbox (takeRelease n s).bi.lanes = true := by
  generalize h : takeRelease n s = t
  unfold takeRelease at h
  try dsimp only at h
  (repeat' split at h) <;> subst h <;> simp (maxDischargeDepth := 12) [h0]

@[simp] theorem takeRequest_outbox (n m : Nat) (e : RosterEntry) (s : State) (h0 : within Config.laneOutbox s.bi.lanes = true) :
    within Config.laneOutbox (takeRequest n m e s).bi.lanes = true := by
  generalize h : takeRequest n m e s = t
  unfold takeRequest at h
  try dsimp only at h
  (repeat' split at h) <;> subst h <;> simp (maxDischargeDepth := 12) [h0]

@[simp] theorem lanesRemoved_outbox (n : Nat) (s : State) (h0 : within Config.laneOutbox s.bi.lanes = true) :
    within Config.laneOutbox (lanesRemoved n s).bi.lanes = true := by
  generalize h : lanesRemoved n s = t
  unfold lanesRemoved at h
  try dsimp only at h
  (repeat' split at h) <;> subst h <;> simp (maxDischargeDepth := 12) [h0]

@[simp] theorem lanesUnpowered_outbox (n : Nat) (s : State) (h0 : within Config.laneOutbox s.bi.lanes = true) :
    within Config.laneOutbox (lanesUnpowered n s).bi.lanes = true := by
  generalize h : lanesUnpowered n s = t
  unfold lanesUnpowered at h
  try dsimp only at h
  (repeat' split at h) <;> subst h <;> simp (maxDischargeDepth := 12) [h0]

@[simp] theorem laneFaultOn_outbox (n : Nat) (s : State) (h0 : within Config.laneOutbox s.bi.lanes = true) :
    within Config.laneOutbox (laneFaultOn n s).bi.lanes = true := by
  generalize h : laneFaultOn n s = t
  unfold laneFaultOn at h
  try dsimp only at h
  (repeat' split at h) <;> subst h <;> simp (maxDischargeDepth := 12) [h0]

@[simp] theorem laneFaultOff_outbox (n : Nat) (s : State) (h0 : within Config.laneOutbox s.bi.lanes = true) :
    within Config.laneOutbox (laneFaultOff n s).bi.lanes = true := by
  generalize h : laneFaultOff n s = t
  unfold laneFaultOff at h
  try dsimp only at h
  (repeat' split at h) <;> subst h <;> simp (maxDischargeDepth := 12) [h0]

@[simp] theorem thermalReports_outbox (a b : TChannel) (h : Bool) (s : State) (h0 : within Config.laneOutbox s.bi.lanes = true) :
    within Config.laneOutbox (thermalReports a b h s).bi.lanes = true := by
  generalize h : thermalReports a b h s = t
  unfold thermalReports at h
  try dsimp only at h
  (repeat' split at h) <;> subst h <;> simp (maxDischargeDepth := 12) [h0]

@[simp] theorem convertT_outbox (k : Nat) (d : Option Int) (s : State) (h0 : within Config.laneOutbox s.bi.lanes = true) :
    within Config.laneOutbox (convertT k d s).bi.lanes = true := by
  generalize h : convertT k d s = t
  unfold convertT at h
  try dsimp only at h
  (repeat' split at h) <;> subst h <;> simp (maxDischargeDepth := 12) [h0]

@[simp] theorem convert_outbox (d : Option Int) (v : Int) (s : State) (h0 : within Config.laneOutbox s.bi.lanes = true) :
    within Config.laneOutbox (convert d v s).bi.lanes = true := by
  generalize h : convert d v s = t
  unfold convert at h
  try dsimp only at h
  (repeat' split at h) <;> subst h <;> simp (maxDischargeDepth := 12) [h0]

@[simp] theorem askLanes_outbox (n m : Nat) (s : State) (h0 : within Config.laneOutbox s.bi.lanes = true) :
    within Config.laneOutbox (askLanes n m s).bi.lanes = true := by
  generalize h : askLanes n m s = t
  unfold askLanes at h
  try dsimp only at h
  (repeat' split at h) <;> subst h <;> simp (maxDischargeDepth := 12) [h0]

@[simp] theorem giveLanes_outbox (n : Nat) (s : State) (h0 : within Config.laneOutbox s.bi.lanes = true) :
    within Config.laneOutbox (giveLanes n s).bi.lanes = true := by
  generalize h : giveLanes n s = t
  unfold giveLanes at h
  try dsimp only at h
  (repeat' split at h) <;> subst h <;> simp (maxDischargeDepth := 12) [h0]

@[simp] theorem lateGrant_outbox (n : Nat) (s : State) (h0 : within Config.laneOutbox s.bi.lanes = true) :
    within Config.laneOutbox (lateGrant n s).bi.lanes = true := by
  generalize h : lateGrant n s = t
  unfold lateGrant at h
  try dsimp only at h
  (repeat' split at h) <;> subst h <;> simp (maxDischargeDepth := 12) [h0]

@[simp] theorem takeGrant_outbox (n : Nat) (a : Answer) (h : Half) (s : State) (h0 : within Config.laneOutbox s.bi.lanes = true) :
    within Config.laneOutbox (takeGrant n a h s).bi.lanes = true := by
  generalize h : takeGrant n a h s = t
  unfold takeGrant at h
  try dsimp only at h
  (repeat' split at h) <;> subst h <;> simp (maxDischargeDepth := 12) [h0]

@[simp] theorem repostRequests_outbox (us : List Nat) (s : State) (h0 : within Config.laneOutbox s.bi.lanes = true) :
    within Config.laneOutbox (repostRequests us s).bi.lanes = true := by
  induction us generalizing s with
  | nil => simp (maxDischargeDepth := 12) [repostRequests, h0]
  | cons u us ih => unfold repostRequests; (repeat' split) <;> simp (maxDischargeDepth := 12) [ih, h0]

@[simp] theorem replyTimeout_outbox (n : Nat) (s : State) (h0 : within Config.laneOutbox s.bi.lanes = true) :
    within Config.laneOutbox (replyTimeout n s).bi.lanes = true := by
  generalize h : replyTimeout n s = t
  unfold replyTimeout at h
  try dsimp only at h
  (repeat' split at h) <;> subst h <;> simp (maxDischargeDepth := 12) [h0]

@[simp] theorem budgetRemoved_outbox (n : Nat) (s : State) (h0 : within Config.laneOutbox s.bi.lanes = true) :
    within Config.laneOutbox (budgetRemoved n s).bi.lanes = true := by
  generalize h : budgetRemoved n s = t
  unfold budgetRemoved at h
  try dsimp only at h
  (repeat' split at h) <;> subst h <;> simp (maxDischargeDepth := 12) [h0]

@[simp] theorem lanesReported_outbox (n : Nat) (s : State) (h0 : within Config.laneOutbox s.bi.lanes = true) :
    within Config.laneOutbox (lanesReported n s).bi.lanes = true := by
  generalize h : lanesReported n s = t
  unfold lanesReported at h
  try dsimp only at h
  (repeat' split at h) <;> subst h <;> simp (maxDischargeDepth := 12) [h0]

@[simp] theorem removalReport_outbox (n : Nat) (s : State) (h0 : within Config.laneOutbox s.bi.lanes = true) :
    within Config.laneOutbox (removalReport n s).bi.lanes = true := by
  generalize h : removalReport n s = t
  unfold removalReport at h
  try dsimp only at h
  (repeat' split at h) <;> subst h <;> simp (maxDischargeDepth := 12) [h0]

@[simp] theorem removeEntry_outbox (k : ChangeKind) (n : Nat) (e : RosterEntry) (s : State) (h0 : within Config.laneOutbox s.bi.lanes = true) :
    within Config.laneOutbox (removeEntry k n e s).bi.lanes = true := by
  generalize h : removeEntry k n e s = t
  unfold removeEntry at h
  try dsimp only at h
  (repeat' split at h) <;> subst h <;> simp (maxDischargeDepth := 12) [h0]

@[simp] theorem budgetPresent_outbox (n : Nat) (e : RosterEntry) (s : State) (h0 : within Config.laneOutbox s.bi.lanes = true) :
    within Config.laneOutbox (budgetPresent n e s).bi.lanes = true := by
  generalize h : budgetPresent n e s = t
  unfold budgetPresent at h
  try dsimp only at h
  (repeat' split at h) <;> subst h <;> simp (maxDischargeDepth := 12) [h0]

@[simp] theorem insertEntry_outbox (n : Nat) (e : RosterEntry) (s : State) (h0 : within Config.laneOutbox s.bi.lanes = true) :
    within Config.laneOutbox (insertEntry n e s).bi.lanes = true := by
  generalize h : insertEntry n e s = t
  unfold insertEntry at h
  try dsimp only at h
  (repeat' split at h) <;> subst h <;> simp (maxDischargeDepth := 12) [h0]

@[simp] theorem swapEntry_outbox (n : Nat) (e : RosterEntry) (s : State) (h0 : within Config.laneOutbox s.bi.lanes = true) :
    within Config.laneOutbox (swapEntry n e s).bi.lanes = true := by
  generalize h : swapEntry n e s = t
  unfold swapEntry at h
  try dsimp only at h
  (repeat' split at h) <;> subst h <;> simp (maxDischargeDepth := 12) [h0]

@[simp] theorem budgetAnnounced_outbox (n : Nat) (e e' : RosterEntry) (s : State) (h0 : within Config.laneOutbox s.bi.lanes = true) :
    within Config.laneOutbox (budgetAnnounced n e e' s).bi.lanes = true := by
  generalize h : budgetAnnounced n e e' s = t
  unfold budgetAnnounced at h
  try dsimp only at h
  (repeat' split at h) <;> subst h <;> simp (maxDischargeDepth := 12) [h0]

@[simp] theorem announceEntry_outbox (n : Nat) (e : RosterEntry) (a : Announcement) (s : State) (h0 : within Config.laneOutbox s.bi.lanes = true) :
    within Config.laneOutbox (announceEntry n e a s).bi.lanes = true := by
  generalize h : announceEntry n e a s = t
  unfold announceEntry at h
  try dsimp only at h
  (repeat' split at h) <;> subst h <;> simp (maxDischargeDepth := 12) [h0]

@[simp] theorem takeAnnounce_outbox (n : Nat) (a : Announcement) (s : State) (h0 : within Config.laneOutbox s.bi.lanes = true) :
    within Config.laneOutbox (takeAnnounce n a s).bi.lanes = true := by
  generalize h : takeAnnounce n a s = t
  unfold takeAnnounce at h
  try dsimp only at h
  (repeat' split at h) <;> subst h <;> simp (maxDischargeDepth := 12) [h0]

@[simp] theorem takeJoin_outbox (n : Nat) (r : Role) (i : Identity) (s : State) (h0 : within Config.laneOutbox s.bi.lanes = true) :
    within Config.laneOutbox (takeJoin n r i s).bi.lanes = true := by
  generalize h : takeJoin n r i s = t
  unfold takeJoin at h
  try dsimp only at h
  (repeat' split at h) <;> subst h <;> simp (maxDischargeDepth := 12) [h0]

@[simp] theorem takeClaim_outbox (n : Nat) (e : RosterEntry) (p : ClaimPart) (s : State) (h0 : within Config.laneOutbox s.bi.lanes = true) :
    within Config.laneOutbox (takeClaim n e p s).bi.lanes = true := by
  generalize h : takeClaim n e p s = t
  unfold takeClaim at h
  try dsimp only at h
  (repeat' split at h) <;> subst h <;> simp (maxDischargeDepth := 12) [h0]

@[simp] theorem takeReleaseFrame_outbox (n : Nat) (e : RosterEntry) (s : State) (h0 : within Config.laneOutbox s.bi.lanes = true) :
    within Config.laneOutbox (takeReleaseFrame n e s).bi.lanes = true := by
  generalize h : takeReleaseFrame n e s = t
  unfold takeReleaseFrame at h
  try dsimp only at h
  (repeat' split at h) <;> subst h <;> simp (maxDischargeDepth := 12) [h0]

@[simp] theorem takeCapacity_outbox (n : Nat) (e : RosterEntry) (p : SupplyPart) (s : State) (h0 : within Config.laneOutbox s.bi.lanes = true) :
    within Config.laneOutbox (takeCapacity n e p s).bi.lanes = true := by
  generalize h : takeCapacity n e p s = t
  unfold takeCapacity at h
  try dsimp only at h
  (repeat' split at h) <;> subst h <;> simp (maxDischargeDepth := 12) [h0]

@[simp] theorem takeFanstat_outbox (n : Nat) (e : RosterEntry) (p : FanPart) (s : State) (h0 : within Config.laneOutbox s.bi.lanes = true) :
    within Config.laneOutbox (takeFanstat n e p s).bi.lanes = true := by
  generalize h : takeFanstat n e p s = t
  unfold takeFanstat at h
  try dsimp only at h
  (repeat' split at h) <;> subst h <;> simp (maxDischargeDepth := 12) [h0]

@[simp] theorem grantFrame_outbox (n : Nat) (e : RosterEntry) (p : List Byte) (s : State) (h0 : within Config.laneOutbox s.bi.lanes = true) :
    within Config.laneOutbox (grantFrame n e p s).bi.lanes = true := by
  generalize h : grantFrame n e p s = t
  unfold grantFrame at h
  try dsimp only at h
  (repeat' split at h) <;> subst h <;> simp (maxDischargeDepth := 12) [h0]

@[simp] theorem requestFrame_outbox (n : Nat) (e : RosterEntry) (p : List Byte) (s : State) (h0 : within Config.laneOutbox s.bi.lanes = true) :
    within Config.laneOutbox (requestFrame n e p s).bi.lanes = true := by
  generalize h : requestFrame n e p s = t
  unfold requestFrame at h
  try dsimp only at h
  (repeat' split at h) <;> subst h <;> simp (maxDischargeDepth := 12) [h0]

@[simp] theorem releaseFrame_outbox (n : Nat) (e : RosterEntry) (p : List Byte) (s : State) (h0 : within Config.laneOutbox s.bi.lanes = true) :
    within Config.laneOutbox (releaseFrame n e p s).bi.lanes = true := by
  generalize h : releaseFrame n e p s = t
  unfold releaseFrame at h
  try dsimp only at h
  (repeat' split at h) <;> subst h <;> simp (maxDischargeDepth := 12) [h0]

@[simp] theorem deliverKnown_outbox (k n : Nat) (e : RosterEntry) (p : List Byte) (s : State) (h0 : within Config.laneOutbox s.bi.lanes = true) :
    within Config.laneOutbox (deliverKnown k n e p s).bi.lanes = true := by
  generalize h : deliverKnown k n e p s = t
  unfold deliverKnown at h
  try dsimp only at h
  (repeat' split at h) <;> subst h <;> simp (maxDischargeDepth := 12) [h0]

@[simp] theorem deliverUnknown_outbox (k n : Nat) (p : List Byte) (s : State) (h0 : within Config.laneOutbox s.bi.lanes = true) :
    within Config.laneOutbox (deliverUnknown k n p s).bi.lanes = true := by
  generalize h : deliverUnknown k n p s = t
  unfold deliverUnknown at h
  try dsimp only at h
  (repeat' split at h) <;> subst h <;> simp (maxDischargeDepth := 12) [h0]

@[simp] theorem deliver_outbox (k n : Nat) (p : List Byte) (s : State) (h0 : within Config.laneOutbox s.bi.lanes = true) :
    within Config.laneOutbox (deliver k n p s).bi.lanes = true := by
  generalize h : deliver k n p s = t
  unfold deliver at h
  try dsimp only at h
  (repeat' split at h) <;> subst h <;> simp (maxDischargeDepth := 12) [h0]

@[simp] theorem completeRemoval_outbox (s : State) (h0 : within Config.laneOutbox s.bi.lanes = true) :
    within Config.laneOutbox (completeRemoval s).bi.lanes = true := by
  generalize h : completeRemoval s = t
  unfold completeRemoval at h
  try dsimp only at h
  (repeat' split at h) <;> subst h <;> simp (maxDischargeDepth := 12) [h0]

@[simp] theorem endGrace_outbox (s : State) (h0 : within Config.laneOutbox s.bi.lanes = true) :
    within Config.laneOutbox (endGrace s).bi.lanes = true := by
  generalize h : endGrace s = t
  unfold endGrace at h
  try dsimp only at h
  (repeat' split at h) <;> subst h <;> simp (maxDischargeDepth := 12) [h0]

@[simp] theorem finish_outbox (s : State) (h0 : within Config.laneOutbox s.bi.lanes = true) :
    within Config.laneOutbox (finish s).bi.lanes = true := by
  generalize h : finish s = t
  unfold finish at h
  try dsimp only at h
  (repeat' split at h) <;> subst h <;> simp (maxDischargeDepth := 12) [h0]

@[simp] theorem minOffAtOnce_outbox (s t : State) (h0 : within Config.laneOutbox t.bi.lanes = true) :
    within Config.laneOutbox (minOffAtOnce s t).bi.lanes = true := by
  unfold minOffAtOnce
  split <;> simp [h0]

@[simp] theorem consumerOpens_outbox (s : State) (h0 : within Config.laneOutbox s.bi.lanes = true) :
    within Config.laneOutbox (consumerOpens s).bi.lanes = true := by
  generalize h : consumerOpens s = t
  unfold consumerOpens at h
  try dsimp only at h
  (repeat' split at h) <;> subst h <;> simp (maxDischargeDepth := 12) [h0]

@[simp] theorem supplyOpens_outbox (s : State) (h0 : within Config.laneOutbox s.bi.lanes = true) :
    within Config.laneOutbox (supplyOpens s).bi.lanes = true := by
  generalize h : supplyOpens s = t
  unfold supplyOpens at h
  try dsimp only at h
  (repeat' split at h) <;> subst h <;> simp (maxDischargeDepth := 12) [h0]

@[simp] theorem handleOpens_outbox (s : State) (h0 : within Config.laneOutbox s.bi.lanes = true) :
    within Config.laneOutbox (handleOpens s).bi.lanes = true := by
  generalize h : handleOpens s = t
  unfold handleOpens at h
  try dsimp only at h
  (repeat' split at h) <;> subst h <;> simp (maxDischargeDepth := 12) [h0]

@[simp] theorem repostGrants_outbox (ts : List Nat) (s : State) (h0 : within Config.laneOutbox s.bi.lanes = true) :
    within Config.laneOutbox (repostGrants ts s).bi.lanes = true := by
  induction ts generalizing s with
  | nil => simp (maxDischargeDepth := 12) [repostGrants, h0]
  | cons t ts ih => unfold repostGrants; split <;> simp (maxDischargeDepth := 12) [ih, h0]

@[simp] theorem repostReleases_outbox (us : List Nat) (s : State) (h0 : within Config.laneOutbox s.bi.lanes = true) :
    within Config.laneOutbox (repostReleases us s).bi.lanes = true := by
  induction us generalizing s with
  | nil => simp (maxDischargeDepth := 12) [repostReleases, h0]
  | cons u us ih => unfold repostReleases; (repeat' split) <;> simp (maxDischargeDepth := 12) [ih, h0]

@[simp] theorem rejoin_outbox (s : State) (h0 : within Config.laneOutbox s.bi.lanes = true) :
    within Config.laneOutbox (rejoin s).bi.lanes = true := by
  generalize h : rejoin s = t
  unfold rejoin at h
  try dsimp only at h
  (repeat' split at h) <;> subst h <;> simp (maxDischargeDepth := 12) [h0]

@[simp] theorem unseatedPath_outbox (s : State) (h0 : within Config.laneOutbox s.bi.lanes = true) :
    within Config.laneOutbox (unseatedPath s).bi.lanes = true := by
  generalize h : unseatedPath s = t
  unfold unseatedPath at h
  try dsimp only at h
  (repeat' split at h) <;> subst h <;> simp (maxDischargeDepth := 12) [h0]

end Sys2Proof.Machine
end

