-- ==== Sys2Proof/Laws/RosterTables.lean ====
section
/-! SUPPORT. The roster (R40, R56): every operation keeps its entries in order and the change queue within sixteen records. -/

namespace Sys2Proof.Machine

theorem Roster.sound_iff (r : Roster) :
    r.sound = true ↔ slotWf r.entries = true ∧ within Config.changeQueue r.changes = true ∧ r.lost ≤ 255 := by
  simp [Roster.sound, and_assoc]

@[simp] theorem Roster.sound_entries {r : Roster} (h : r.sound = true) : slotWf r.entries = true :=
  ((Roster.sound_iff r).1 h).1

@[simp] theorem Roster.sound_changes {r : Roster} (h : r.sound = true) : within Config.changeQueue r.changes = true :=
  ((Roster.sound_iff r).1 h).2.1

@[simp] theorem Roster.sound_lost {r : Roster} (h : r.sound = true) : r.lost ≤ 255 := ((Roster.sound_iff r).1 h).2.2

/-- A roster is sound by its entries and its change queue alone. -/
theorem Roster.sound_of {r q : Roster} (h : r.sound = true) (h1 : slotWf q.entries = true) (h2 : q.changes = r.changes)
    (h3 : q.lost = r.lost) : q.sound = true := by
  rw [Roster.sound_iff] at *
  rw [h2, h3]
  exact ⟨h1, h.2⟩

@[simp] theorem Roster.sound_set (r : Roster) (m : SlotMap RosterEntry) (h : r.sound = true) (h1 : slotWf m = true) :
    Roster.sound { r with entries := m } = true :=
  Roster.sound_of h h1 rfl rfl

@[simp] theorem State.putEntry_roster (s : State) (n : Nat) (e : RosterEntry) (h0 : s.ro.sound = true) :
    (s.putEntry n e).ro.sound = true :=
  Roster.sound_of h0 (slotSet_wf _ _ _ (Roster.sound_entries h0)) rfl rfl

@[simp] theorem addChange_roster (k : ChangeKind) (n : Nat) (e : RosterEntry) (s : State) (h0 : s.ro.sound = true) :
    (addChange k n e s).ro.sound = true := by
  have h1 := (Roster.sound_iff s.ro).1 h0
  generalize h : addChange k n e s = t
  unfold addChange at h
  dsimp only at h
  split at h
  · next hq =>
    subst h
    simp only [State.latch_frame, State.withRo_ro, Roster.sound_iff, h1.1, true_and]
    have hc := (within_iff _ _).1 h1.2.1
    refine ⟨(within_iff _ _).2 ?_, ?_⟩
    · simp only [List.length_drop, List.length_append, List.length_cons, List.length_nil]
      omega
    · simp only [satSucc]
      omega
  · next hq =>
    subst h
    simp only [State.latch_frame, State.withRo_ro, Roster.sound_iff, h1.1, h1.2.2, true_and, and_true]
    exact (within_iff _ _).2 (Nat.not_lt.1 hq)

@[simp] theorem removeEntry_roster (k : ChangeKind) (n : Nat) (e : RosterEntry) (s : State) (h0 : s.ro.sound = true) :
    (removeEntry k n e s).ro.sound = true := by
  generalize h : removeEntry k n e s = t
  unfold removeEntry at h
  try dsimp only at h
  (repeat' split at h) <;> subst h <;> simp (maxDischargeDepth := 12) [h0]

@[simp] theorem insertEntry_roster (n : Nat) (e : RosterEntry) (s : State) (h0 : s.ro.sound = true) :
    (insertEntry n e s).ro.sound = true := by
  generalize h : insertEntry n e s = t
  unfold insertEntry at h
  try dsimp only at h
  (repeat' split at h) <;> subst h <;> simp (maxDischargeDepth := 12) [h0]

@[simp] theorem swapEntry_roster (n : Nat) (e : RosterEntry) (s : State) (h0 : s.ro.sound = true) :
    (swapEntry n e s).ro.sound = true := by
  generalize h : swapEntry n e s = t
  unfold swapEntry at h
  try dsimp only at h
  (repeat' split at h) <;> subst h <;> simp (maxDischargeDepth := 12) [h0]

@[simp] theorem announceEntry_roster (n : Nat) (e : RosterEntry) (a : Announcement) (s : State) (h0 : s.ro.sound = true) :
    (announceEntry n e a s).ro.sound = true := by
  generalize h : announceEntry n e a s = t
  unfold announceEntry at h
  try dsimp only at h
  (repeat' split at h) <;> subst h <;> simp (maxDischargeDepth := 12) [h0]

@[simp] theorem takeAnnounce_roster (n : Nat) (a : Announcement) (s : State) (h0 : s.ro.sound = true) :
    (takeAnnounce n a s).ro.sound = true := by
  generalize h : takeAnnounce n a s = t
  unfold takeAnnounce at h
  try dsimp only at h
  (repeat' split at h) <;> subst h <;> simp (maxDischargeDepth := 12) [h0]

@[simp] theorem takeJoin_roster (n : Nat) (r : Role) (i : Identity) (s : State) (h0 : s.ro.sound = true) :
    (takeJoin n r i s).ro.sound = true := by
  generalize h : takeJoin n r i s = t
  unfold takeJoin at h
  try dsimp only at h
  (repeat' split at h) <;> subst h <;> simp (maxDischargeDepth := 12) [h0]

@[simp] theorem takeClaim_roster (n : Nat) (e : RosterEntry) (p : ClaimPart) (s : State) (h0 : s.ro.sound = true) :
    (takeClaim n e p s).ro.sound = true := by
  generalize h : takeClaim n e p s = t
  unfold takeClaim at h
  try dsimp only at h
  (repeat' split at h) <;> subst h <;> simp (maxDischargeDepth := 12) [h0]

@[simp] theorem takeReleaseFrame_roster (n : Nat) (e : RosterEntry) (s : State) (h0 : s.ro.sound = true) :
    (takeReleaseFrame n e s).ro.sound = true := by
  generalize h : takeReleaseFrame n e s = t
  unfold takeReleaseFrame at h
  try dsimp only at h
  (repeat' split at h) <;> subst h <;> simp (maxDischargeDepth := 12) [h0]

@[simp] theorem takeCapacity_roster (n : Nat) (e : RosterEntry) (p : SupplyPart) (s : State) (h0 : s.ro.sound = true) :
    (takeCapacity n e p s).ro.sound = true := by
  generalize h : takeCapacity n e p s = t
  unfold takeCapacity at h
  try dsimp only at h
  (repeat' split at h) <;> subst h <;> simp (maxDischargeDepth := 12) [h0]

@[simp] theorem takeFanstat_roster (n : Nat) (e : RosterEntry) (p : FanPart) (s : State) (h0 : s.ro.sound = true) :
    (takeFanstat n e p s).ro.sound = true := by
  generalize h : takeFanstat n e p s = t
  unfold takeFanstat at h
  try dsimp only at h
  (repeat' split at h) <;> subst h <;> simp (maxDischargeDepth := 12) [h0]

@[simp] theorem deliverKnown_roster (k n : Nat) (e : RosterEntry) (p : List Byte) (s : State) (h0 : s.ro.sound = true) :
    (deliverKnown k n e p s).ro.sound = true := by
  generalize h : deliverKnown k n e p s = t
  unfold deliverKnown at h
  try dsimp only at h
  (repeat' split at h) <;> subst h <;> simp (maxDischargeDepth := 12) [h0]

@[simp] theorem deliverUnknown_roster (k n : Nat) (p : List Byte) (s : State) (h0 : s.ro.sound = true) :
    (deliverUnknown k n p s).ro.sound = true := by
  generalize h : deliverUnknown k n p s = t
  unfold deliverUnknown at h
  try dsimp only at h
  (repeat' split at h) <;> subst h <;> simp (maxDischargeDepth := 12) [h0]

@[simp] theorem deliver_roster (k n : Nat) (p : List Byte) (s : State) (h0 : s.ro.sound = true) :
    (deliver k n p s).ro.sound = true := by
  generalize h : deliver k n p s = t
  unfold deliver at h
  try dsimp only at h
  (repeat' split at h) <;> subst h <;> simp (maxDischargeDepth := 12) [h0]

@[simp] theorem enterActive_roster (s : State) (h0 : s.ro.sound = true) :
    (enterActive s).ro.sound = true := by
  generalize h : enterActive s = t
  unfold enterActive at h
  dsimp only at h
  subst h
  simp only [roleEntry_frame, post_frame]
  exact Roster.sound_of h0 (Roster.sound_entries h0) rfl rfl

@[simp] theorem enterReady_roster (s : State) (h0 : s.ro.sound = true) :
    (enterReady s).ro.sound = true := by
  generalize h : enterReady s = t
  unfold enterReady at h
  try dsimp only at h
  (repeat' split at h) <;> subst h <;> simp (maxDischargeDepth := 12) [h0]

@[simp] theorem listenMore_roster (s : State) (h0 : s.ro.sound = true) :
    (listenMore s).ro.sound = true := by
  generalize h : listenMore s = t
  unfold listenMore at h
  try dsimp only at h
  (repeat' split at h) <;> subst h <;> simp (maxDischargeDepth := 12) [h0]

end Sys2Proof.Machine
end

