-- ==== Sys2Proof/Laws/Bounds.lean ====
section
/-! SUPPORT. The mail outbox, the mail receive queue, the fan controller and the supply record: every operation keeps them within what the rules give them. -/

namespace Sys2Proof.Machine

/-! ## The mail outbox (R28) -/

@[simp] theorem within_sendFirstMail (k : Nat) (ms : List MailEntry) : within k (sendFirstMail ms) = within k ms := by
  rw [Bool.eq_iff_iff, within_iff, within_iff]
  cases ms <;> simp [sendFirstMail]

@[simp] theorem State.beginTx_mails (s : State) (c : Choice) (p : List Byte) (h0 : within Config.mailOutbox s.bi.mails = true) :
    within Config.mailOutbox (s.beginTx c p).bi.mails = true := by
  generalize h : s.beginTx c p = t
  unfold State.beginTx at h
  try dsimp only at h
  (repeat' split at h) <;> subst h <;> simp (maxDischargeDepth := 12) [h0]

@[simp] theorem State.emptyChoice_mails (s : State) (c : Choice) (h0 : within Config.mailOutbox s.bi.mails = true) :
    within Config.mailOutbox (s.emptyChoice c).bi.mails = true := by
  generalize h : s.emptyChoice c = t
  unfold State.emptyChoice at h
  try dsimp only at h
  (repeat' split at h) <;> subst h <;> simp (maxDischargeDepth := 12) [h0]

@[simp] theorem startLoop_mails (n : Nat) (s : State) (h0 : within Config.mailOutbox s.bi.mails = true) :
    within Config.mailOutbox (startLoop n s).bi.mails = true := by
  induction n generalizing s with
  | zero => simp (maxDischargeDepth := 12) [startLoop, h0]
  | succ n ih => unfold startLoop; (repeat' split) <;> simp (maxDischargeDepth := 12) [ih, h0]

@[simp] theorem startFrame_mails (s : State) (h0 : within Config.mailOutbox s.bi.mails = true) :
    within Config.mailOutbox (startFrame s).bi.mails = true := by
  generalize h : startFrame s = t
  unfold startFrame at h
  try dsimp only at h
  (repeat' split at h) <;> subst h <;> simp (maxDischargeDepth := 12) [h0]

@[simp] theorem endMail_mails (e : Ending) (d : Bool) (s : State) (h0 : within Config.mailOutbox s.bi.mails = true) :
    within Config.mailOutbox (endMail e d s).bi.mails = true := by
  generalize h : endMail e d s = t
  unfold endMail at h
  dsimp only at h
  (repeat' split at h) <;> subst h <;> simp [h0, dropSendingMail, unsendMail]

@[simp] theorem endTx_mails (t : Tx) (e : Ending) (s : State) (h0 : within Config.mailOutbox s.bi.mails = true) :
    within Config.mailOutbox (endTx t e s).bi.mails = true := by
  generalize h : endTx t e s = t
  unfold endTx at h
  try dsimp only at h
  (repeat' split at h) <;> subst h <;> simp (maxDischargeDepth := 12) [h0]

@[simp] theorem emptyOutbound_mails (s : State) (h0 : within Config.mailOutbox s.bi.mails = true) :
    within Config.mailOutbox (emptyOutbound s).bi.mails = true := by
  generalize h : emptyOutbound s = t
  unfold emptyOutbound at h
  try dsimp only at h
  (repeat' split at h) <;> subst h <;> simp (maxDischargeDepth := 12) [h0]

@[simp] theorem cutOutbound_mails (s : State) (h0 : within Config.mailOutbox s.bi.mails = true) :
    within Config.mailOutbox (cutOutbound s).bi.mails = true := by
  generalize h : cutOutbound s = t
  unfold cutOutbound at h
  try dsimp only at h
  (repeat' split at h) <;> subst h <;> simp (maxDischargeDepth := 12) [h0]

@[simp] theorem completeRemoval_mails (s : State) (h0 : within Config.mailOutbox s.bi.mails = true) :
    within Config.mailOutbox (completeRemoval s).bi.mails = true := by
  generalize h : completeRemoval s = t
  unfold completeRemoval at h
  try dsimp only at h
  (repeat' split at h) <;> subst h <;> simp (maxDischargeDepth := 12) [h0]

@[simp] theorem finish_mails (s : State) (h0 : within Config.mailOutbox s.bi.mails = true) :
    within Config.mailOutbox (finish s).bi.mails = true := by
  generalize h : finish s = t
  unfold finish at h
  try dsimp only at h
  (repeat' split at h) <;> subst h <;> simp (maxDischargeDepth := 12) [h0]

@[simp] theorem minOffAtOnce_mails (s t : State) (h0 : within Config.mailOutbox t.bi.mails = true) :
    within Config.mailOutbox (minOffAtOnce s t).bi.mails = true := by
  unfold minOffAtOnce
  split <;> simp [h0]

@[simp] theorem consumerOpens_mails (s : State) (h0 : within Config.mailOutbox s.bi.mails = true) :
    within Config.mailOutbox (consumerOpens s).bi.mails = true := by
  generalize h : consumerOpens s = t
  unfold consumerOpens at h
  try dsimp only at h
  (repeat' split at h) <;> subst h <;> simp (maxDischargeDepth := 12) [h0]

@[simp] theorem supplyOpens_mails (s : State) (h0 : within Config.mailOutbox s.bi.mails = true) :
    within Config.mailOutbox (supplyOpens s).bi.mails = true := by
  generalize h : supplyOpens s = t
  unfold supplyOpens at h
  try dsimp only at h
  (repeat' split at h) <;> subst h <;> simp (maxDischargeDepth := 12) [h0]

@[simp] theorem handleOpens_mails (s : State) (h0 : within Config.mailOutbox s.bi.mails = true) :
    within Config.mailOutbox (handleOpens s).bi.mails = true := by
  generalize h : handleOpens s = t
  unfold handleOpens at h
  try dsimp only at h
  (repeat' split at h) <;> subst h <;> simp (maxDischargeDepth := 12) [h0]

/-! ## The mail receive queue (R189) -/

@[simp] theorem takeMail_mailQueue (n : Nat) (b : Bool) (p : List Byte) (s : State)
    (h0 : within Config.mailQueue s.lp.mailQueue = true) : within Config.mailQueue (takeMail n b p s).lp.mailQueue = true := by
  generalize h : takeMail n b p s = t
  unfold takeMail at h
  dsimp only at h
  split at h
  · subst h; exact h0
  · split at h
    · subst h; simp [h0]
    · next hq =>
      have := within_append Config.mailQueue ({ source := n, dest := targetSlot p, stranger := b, data := p.drop 1 } : MailItem)
        s.lp.mailQueue (Nat.not_le.1 hq)
      split at h <;> subst h <;> simpa using this

@[simp] theorem deliverKnown_mailQueue (k n : Nat) (e : RosterEntry) (p : List Byte) (s : State) (h0 : within Config.mailQueue s.lp.mailQueue = true) :
    within Config.mailQueue (deliverKnown k n e p s).lp.mailQueue = true := by
  generalize h : deliverKnown k n e p s = t
  unfold deliverKnown at h
  try dsimp only at h
  (repeat' split at h) <;> subst h <;> simp (maxDischargeDepth := 12) [h0]

@[simp] theorem deliverUnknown_mailQueue (k n : Nat) (p : List Byte) (s : State) (h0 : within Config.mailQueue s.lp.mailQueue = true) :
    within Config.mailQueue (deliverUnknown k n p s).lp.mailQueue = true := by
  generalize h : deliverUnknown k n p s = t
  unfold deliverUnknown at h
  try dsimp only at h
  (repeat' split at h) <;> subst h <;> simp (maxDischargeDepth := 12) [h0]

@[simp] theorem deliver_mailQueue (k n : Nat) (p : List Byte) (s : State) (h0 : within Config.mailQueue s.lp.mailQueue = true) :
    within Config.mailQueue (deliver k n p s).lp.mailQueue = true := by
  generalize h : deliver k n p s = t
  unfold deliver at h
  try dsimp only at h
  (repeat' split at h) <;> subst h <;> simp (maxDischargeDepth := 12) [h0]

/-! ## The fan controller (R135) -/

theorem FanControl.sound_iff (f : FanControl) : f.sound = true ↔ slotWf f.view = true ∧ f.applied ≤ 100 := by
  simp [FanControl.sound]

@[simp] theorem FanControl.sound_view {f : FanControl} (h : f.sound = true) : slotWf f.view = true :=
  ((FanControl.sound_iff f).1 h).1

theorem FanControl.sound_of {g : FanControl} (h1 : slotWf g.view = true) (h2 : g.applied ≤ 100) :
    g.sound = true := (FanControl.sound_iff g).2 ⟨h1, h2⟩

/-- A change of the rotors, the sustained count or the reported duty leaves the controller sound. -/
theorem FanControl.sound_same {f g : FanControl} (h : f.sound = true) (h1 : g.view = f.view) (h2 : g.applied = f.applied) :
    g.sound = true := by
  rw [FanControl.sound_iff] at *
  rw [h1, h2]
  exact h

theorem fanComp_le (s : State) : s.fanComp ≤ 100 := Nat.min_le_left _ _

theorem slew_le (a c : Nat) (h : a ≤ 100) (hc : c ≤ 100) : slew a c ≤ 100 := by
  unfold slew
  split <;> omega

@[simp] theorem upwardStep_fan (s : State) (h0 : s.fc.sound = true) :
    (upwardStep s).fc.sound = true := by
  have h1 := (FanControl.sound_iff s.fc).1 h0
  unfold upwardStep
  split
  · exact FanControl.sound_of h1.1 (Nat.max_le.2 ⟨h1.2, fanComp_le s⟩)
  · exact h0

@[simp] theorem beatDuty_fan (s : State) (h0 : s.fc.sound = true) :
    (beatDuty s).fc.sound = true := by
  have h1 := (FanControl.sound_iff s.fc).1 h0
  exact FanControl.sound_of h1.1 (slew_le _ _ h1.2 (fanComp_le s))

@[simp] theorem ageView_fan (s : State) (h0 : s.fc.sound = true) :
    (ageView s).fc.sound = true := by
  have h1 := (FanControl.sound_iff s.fc).1 h0
  exact FanControl.sound_of (g := (ageView s).fc) (by simp [ageView, h1.1]) h1.2

@[simp] theorem judgeOne_fan (k : Nat) (s : State) (h0 : s.fc.sound = true) :
    (judgeOne k s).fc.sound = true := by
  generalize h : judgeOne k s = t
  unfold judgeOne at h
  dsimp only at h
  split at h <;> subst h <;> simp only [fanChanged_frame, State.withFc_fc] <;> exact FanControl.sound_same h0 rfl rfl

@[simp] theorem judgeRotors_fan (ks : List Nat) (s : State) (h0 : s.fc.sound = true) :
    (judgeRotors ks s).fc.sound = true := by
  induction ks generalizing s with
  | nil => simp (maxDischargeDepth := 12) [judgeRotors, h0]
  | cons k ks ih => unfold judgeRotors; split <;> simp (maxDischargeDepth := 12) [ih, h0]

@[simp] theorem tachEdge_fan (k : Nat) (s : State) (h0 : s.fc.sound = true) :
    (tachEdge k s).fc.sound = true := by
  exact FanControl.sound_same h0 rfl rfl

@[simp] theorem judgeSustained_fan (s : State) (h0 : s.fc.sound = true) :
    (judgeSustained s).fc.sound = true := by
  generalize h : judgeSustained s = t
  unfold judgeSustained at h
  dsimp only at h
  (repeat' split at h) <;> subst h <;> (try simp only [fanChanged_frame, State.withFc_fc]) <;>
    exact FanControl.sound_same h0 rfl rfl

@[simp] theorem fanBeat_fan (s : State) (h0 : s.fc.sound = true) :
    (fanBeat s).fc.sound = true := by
  have h1 : (judgeRotors [0, 1, 2, 3] (ageView s)).fc.sound = true := by simp [h0]
  unfold fanBeat
  generalize judgeRotors [0, 1, 2, 3] (ageView s) = t at h1
  dsimp only
  split
  · exact judgeSustained_fan _ (beatDuty_fan t h1)
  · exact h1

@[simp] theorem takeThermal_fan (n d : Nat) (r : Reading) (s : State) (h0 : s.fc.sound = true) :
    (takeThermal n d r s).fc.sound = true := by
  have h1 := (FanControl.sound_iff s.fc).1 h0
  exact upwardStep_fan _ (FanControl.sound_of (slotSet_wf _ _ _ h1.1) h1.2)

@[simp] theorem viewRemoved_fan (n : Nat) (s : State) (h0 : s.fc.sound = true) :
    (viewRemoved n s).fc.sound = true := by
  have h1 := (FanControl.sound_iff s.fc).1 h0
  unfold viewRemoved
  split
  · exact h0
  · exact upwardStep_fan _ (FanControl.sound_of (slotDel_wf _ _ h1.1) h1.2)

@[simp] theorem refreshDemand_fan (s : State) (h0 : s.fc.sound = true) :
    (refreshDemand s).fc.sound = true := by
  generalize h : refreshDemand s = t
  unfold refreshDemand at h
  try dsimp only at h
  (repeat' split at h) <;> subst h <;> simp (maxDischargeDepth := 12) [h0]

@[simp] theorem redemand_fan (k : Nat) (s : State) (h0 : s.fc.sound = true) :
    (redemand k s).fc.sound = true := by
  generalize h : redemand k s = t
  unfold redemand at h
  try dsimp only at h
  (repeat' split at h) <;> subst h <;> simp (maxDischargeDepth := 12) [h0]

@[simp] theorem convertT_fan (k : Nat) (d : Option Int) (s : State) (h0 : s.fc.sound = true) :
    (convertT k d s).fc.sound = true := by
  generalize h : convertT k d s = t
  unfold convertT at h
  try dsimp only at h
  (repeat' split at h) <;> subst h <;> simp (maxDischargeDepth := 12) [h0]

@[simp] theorem convert_fan (d : Option Int) (v : Int) (s : State) (h0 : s.fc.sound = true) :
    (convert d v s).fc.sound = true := by
  generalize h : convert d v s = t
  unfold convert at h
  try dsimp only at h
  (repeat' split at h) <;> subst h <;> simp (maxDischargeDepth := 12) [h0]

@[simp] theorem removalReport_fan (n : Nat) (s : State) (h0 : s.fc.sound = true) :
    (removalReport n s).fc.sound = true := by
  generalize h : removalReport n s = t
  unfold removalReport at h
  try dsimp only at h
  (repeat' split at h) <;> subst h <;> simp (maxDischargeDepth := 12) [h0]

@[simp] theorem removeEntry_fan (k : ChangeKind) (n : Nat) (e : RosterEntry) (s : State) (h0 : s.fc.sound = true) :
    (removeEntry k n e s).fc.sound = true := by
  generalize h : removeEntry k n e s = t
  unfold removeEntry at h
  try dsimp only at h
  (repeat' split at h) <;> subst h <;> simp (maxDischargeDepth := 12) [h0]

@[simp] theorem swapEntry_fan (n : Nat) (e : RosterEntry) (s : State) (h0 : s.fc.sound = true) :
    (swapEntry n e s).fc.sound = true := by
  generalize h : swapEntry n e s = t
  unfold swapEntry at h
  try dsimp only at h
  (repeat' split at h) <;> subst h <;> simp (maxDischargeDepth := 12) [h0]

@[simp] theorem takeAnnounce_fan (n : Nat) (a : Announcement) (s : State) (h0 : s.fc.sound = true) :
    (takeAnnounce n a s).fc.sound = true := by
  generalize h : takeAnnounce n a s = t
  unfold takeAnnounce at h
  try dsimp only at h
  (repeat' split at h) <;> subst h <;> simp (maxDischargeDepth := 12) [h0]

@[simp] theorem takeJoin_fan (n : Nat) (r : Role) (i : Identity) (s : State) (h0 : s.fc.sound = true) :
    (takeJoin n r i s).fc.sound = true := by
  generalize h : takeJoin n r i s = t
  unfold takeJoin at h
  try dsimp only at h
  (repeat' split at h) <;> subst h <;> simp (maxDischargeDepth := 12) [h0]

@[simp] theorem thermalFrame_fan (n : Nat) (p : List Byte) (s : State) (h0 : s.fc.sound = true) :
    (thermalFrame n p s).fc.sound = true := by
  generalize h : thermalFrame n p s = t
  unfold thermalFrame at h
  try dsimp only at h
  (repeat' split at h) <;> subst h <;> simp (maxDischargeDepth := 12) [h0]

@[simp] theorem deliverKnown_fan (k n : Nat) (e : RosterEntry) (p : List Byte) (s : State) (h0 : s.fc.sound = true) :
    (deliverKnown k n e p s).fc.sound = true := by
  generalize h : deliverKnown k n e p s = t
  unfold deliverKnown at h
  try dsimp only at h
  (repeat' split at h) <;> subst h <;> simp (maxDischargeDepth := 12) [h0]

@[simp] theorem deliverUnknown_fan (k n : Nat) (p : List Byte) (s : State) (h0 : s.fc.sound = true) :
    (deliverUnknown k n p s).fc.sound = true := by
  generalize h : deliverUnknown k n p s = t
  unfold deliverUnknown at h
  try dsimp only at h
  (repeat' split at h) <;> subst h <;> simp (maxDischargeDepth := 12) [h0]

@[simp] theorem deliver_fan (k n : Nat) (p : List Byte) (s : State) (h0 : s.fc.sound = true) :
    (deliver k n p s).fc.sound = true := by
  generalize h : deliver k n p s = t
  unfold deliver at h
  try dsimp only at h
  (repeat' split at h) <;> subst h <;> simp (maxDischargeDepth := 12) [h0]

@[simp] theorem completeRemoval_fan (s : State) (h0 : s.fc.sound = true) :
    (completeRemoval s).fc.sound = true := by
  simp only [completeRemoval]
  refine FanControl.sound_of ?_ (Nat.le_refl 100)
  simp [h0]

@[simp] theorem finish_fan (s : State) (h0 : s.fc.sound = true) :
    (finish s).fc.sound = true := by
  generalize h : finish s = t
  unfold finish at h
  try dsimp only at h
  (repeat' split at h) <;> subst h <;> simp (maxDischargeDepth := 12) [h0]

@[simp] theorem minOffAtOnce_fan (s t : State) (h0 : t.fc.sound = true) :
    (minOffAtOnce s t).fc.sound = true := by
  unfold minOffAtOnce
  split <;> simp [h0]

@[simp] theorem consumerOpens_fan (s : State) (h0 : s.fc.sound = true) :
    (consumerOpens s).fc.sound = true := by
  generalize h : consumerOpens s = t
  unfold consumerOpens at h
  try dsimp only at h
  (repeat' split at h) <;> subst h <;> simp (maxDischargeDepth := 12) [h0]

@[simp] theorem supplyOpens_fan (s : State) (h0 : s.fc.sound = true) :
    (supplyOpens s).fc.sound = true := by
  generalize h : supplyOpens s = t
  unfold supplyOpens at h
  try dsimp only at h
  (repeat' split at h) <;> subst h <;> simp (maxDischargeDepth := 12) [h0]

@[simp] theorem handleOpens_fan (s : State) (h0 : s.fc.sound = true) :
    (handleOpens s).fc.sound = true := by
  generalize h : handleOpens s = t
  unfold handleOpens at h
  try dsimp only at h
  (repeat' split at h) <;> subst h <;> simp (maxDischargeDepth := 12) [h0]

@[simp] theorem rejoin_fan (s : State) (h0 : s.fc.sound = true) :
    (rejoin s).fc.sound = true := by
  simp only [rejoin, roleEntry_frame, repostReleases_frame, repostGrants_frame, post_frame]
  exact FanControl.sound_of (show slotWf s.fc.view = true from FanControl.sound_view h0) (Nat.le_refl 100)

@[simp] theorem unseatedPath_fan (s : State) (h0 : s.fc.sound = true) :
    (unseatedPath s).fc.sound = true := by
  generalize h : unseatedPath s = t
  unfold unseatedPath at h
  dsimp only at h
  (repeat' split at h) <;> subst h <;> try simp [h0]
  exact FanControl.sound_of (show slotWf s.fc.view = true from FanControl.sound_view h0) (Nat.le_refl 100)

/-! ## The supply record (R108) -/

theorem Supply.sound_iff (x : Supply) : x.sound = true ↔ x.overload ≤ Config.overloadLimit := by
  simp [Supply.sound]

/-- A change of any field but the overload count leaves the record sound. -/
theorem Supply.sound_same {x y : Supply} (h : x.sound = true) (h1 : y.overload = x.overload) : y.sound = true := by
  rw [Supply.sound_iff] at *
  rw [h1]
  exact h

@[simp] theorem evaluateSupply_supply (s : State) (h0 : s.sup.sound = true) :
    (evaluateSupply s).sup.sound = true := by
  have h1 := (Supply.sound_iff s.sup).1 h0
  have h2 : ∀ (b : Bool) (n : Nat), Supply.sound { s.sup with state := s.supplyNow, reported := n, overload := if b then 0 else s.sup.overload } = true := by
    intro b n
    rw [Supply.sound_iff]
    dsimp only
    split <;> omega
  generalize h : evaluateSupply s = t
  unfold evaluateSupply at h
  dsimp only at h
  split at h <;> subst h <;>
    simpa using h2 (decide (capacityIn s.lc.keys.rating s.supplyNow = 0)) (capacityIn s.lc.keys.rating s.supplyNow)

@[simp] theorem askPulse_supply (s : State) : (askPulse s).sup.sound = true := by
  simp [askPulse, Supply.sound]

@[simp] theorem watchLoad_supply (n : Nat) (s : State) (h0 : s.sup.sound = true) :
    (watchLoad n s).sup.sound = true := by
  generalize h : watchLoad n s = t
  have h1 := (Supply.sound_iff s.sup).1 h0
  unfold watchLoad at h
  dsimp only at h
  by_cases h2 : s.sup.reported = 0
  · simp only [h2, if_true] at h
    split at h <;> subst h
    · exact askPulse_supply _
    · simp [Supply.sound]
  · simp only [h2, if_false] at h
    (repeat' split at h) <;> subst h <;> (try exact askPulse_supply _) <;>
      simp only [State.withSup_sup, Supply.sound_iff]
    · exact Nat.min_le_right _ _
    · exact Nat.zero_le _

@[simp] theorem endGuard_supply (s : State) (h0 : s.sup.sound = true) :
    (endGuard s).sup.sound = true := by
  generalize h : endGuard s = t
  unfold endGuard at h
  dsimp only at h
  split at h <;> subst h
  · exact askPulse_supply _
  · exact Supply.sound_same h0 rfl

@[simp] theorem startDrain_supply (s : State) (h0 : s.sup.sound = true) :
    (startDrain s).sup.sound = true := by
  exact Supply.sound_same h0 rfl

@[simp] theorem abandonDrain_supply (s : State) (h0 : s.sup.sound = true) :
    (abandonDrain s).sup.sound = true := by
  exact Supply.sound_same h0 rfl

@[simp] theorem endDrain_supply (s : State) (h0 : s.sup.sound = true) :
    (endDrain s).sup.sound = true := by
  simp only [endDrain, State.latchPower_frame, State.withSup_sup]
  exact Supply.sound_same h0 rfl

@[simp] theorem supplyOff_supply (s : State) (h0 : s.sup.sound = true) :
    (supplyOff s).sup.sound = true := by
  have h1 : (s.withSup { s.sup with localOff := true }).sup.sound = true := Supply.sound_same h0 rfl
  generalize h : supplyOff s = t
  unfold supplyOff at h
  dsimp only at h
  (repeat' split at h) <;> subst h <;> simp (maxDischargeDepth := 12) only [State.latchPower_frame, startDrain_supply, evaluateSupply_supply, h1]

@[simp] theorem supplyOn_supply (s : State) (h0 : s.sup.sound = true) :
    (supplyOn s).sup.sound = true := by
  unfold supplyOn
  split
  · exact h0
  · simp only [State.latchPower_frame, State.withSup_sup]
    exact Supply.sound_same h0 rfl

@[simp] theorem supplyConversion_supply (k : Nat) (s : State) (h0 : s.sup.sound = true) :
    (supplyConversion k s).sup.sound = true := by
  generalize h : supplyConversion k s = t
  unfold supplyConversion at h
  try dsimp only at h
  (repeat' split at h) <;> subst h <;> simp (maxDischargeDepth := 12) [h0]

@[simp] theorem convert_supply (d : Option Int) (v : Int) (s : State) (h0 : s.sup.sound = true) :
    (convert d v s).sup.sound = true := by
  generalize h : convert d v s = t
  unfold convert at h
  try dsimp only at h
  (repeat' split at h) <;> subst h <;> simp (maxDischargeDepth := 12) [h0]

@[simp] theorem roleEntry_supply (s : State) (h0 : s.sup.sound = true) :
    (roleEntry s).sup.sound = true := by
  generalize h : roleEntry s = t
  unfold roleEntry at h
  try dsimp only at h
  (repeat' split at h) <;> subst h <;> simp (maxDischargeDepth := 12) [h0]

@[simp] theorem enterActive_supply (s : State) (h0 : s.sup.sound = true) :
    (enterActive s).sup.sound = true := by
  generalize h : enterActive s = t
  unfold enterActive at h
  try dsimp only at h
  (repeat' split at h) <;> subst h <;> simp (maxDischargeDepth := 12) [h0]

@[simp] theorem enterReady_supply (s : State) (h0 : s.sup.sound = true) :
    (enterReady s).sup.sound = true := by
  generalize h : enterReady s = t
  unfold enterReady at h
  try dsimp only at h
  (repeat' split at h) <;> subst h <;> simp (maxDischargeDepth := 12) [h0]

@[simp] theorem supplyOpens_supply (s : State) (h0 : s.sup.sound = true) :
    (supplyOpens s).sup.sound = true := by
  have h1 : (evaluateSupply ((s.withSup { s.sup with localOff := true }).withLc
      { s.lc with phase := .poweringDown })).sup.sound = true :=
    evaluateSupply_supply _ (Supply.sound_same h0 rfl)
  unfold supplyOpens
  dsimp only
  split
  · exact h1
  · split
    · exact startDrain_supply _ h1
    · simpa using h1

@[simp] theorem opensEarly_supply (s : State) (h0 : s.sup.sound = true) :
    (opensEarly s).sup.sound = true := by
  unfold opensEarly
  dsimp only
  split
  · exact Supply.sound_same h0 rfl
  · exact h0

@[simp] theorem handleOpens_supply (s : State) (h0 : s.sup.sound = true) :
    (handleOpens s).sup.sound = true := by
  generalize h : handleOpens s = t
  unfold handleOpens at h
  try dsimp only at h
  (repeat' split at h) <;> subst h <;> simp (maxDischargeDepth := 12) [h0]

@[simp] theorem rejoin_supply (s : State) (h0 : s.sup.sound = true) :
    (rejoin s).sup.sound = true := by
  generalize h : rejoin s = t
  unfold rejoin at h
  try dsimp only at h
  (repeat' split at h) <;> subst h <;> simp (maxDischargeDepth := 12) [h0]

@[simp] theorem unseatedPath_supply (s : State) (h0 : s.sup.sound = true) :
    (unseatedPath s).sup.sound = true := by
  unfold unseatedPath
  split
  · simp only [faultPath_frame]
    split <;> simp [h0]
  · simp only [faultPath_frame]
    split <;> simp [h0]
  · simp [h0]
  · exact evaluateSupply_supply _ (Supply.sound_same h0 rfl)
  · exact h0

@[simp] theorem listenMore_supply (s : State) (h0 : s.sup.sound = true) :
    (listenMore s).sup.sound = true := by
  generalize h : listenMore s = t
  unfold listenMore at h
  try dsimp only at h
  (repeat' split at h) <;> subst h <;> simp (maxDischargeDepth := 12) [h0]

end Sys2Proof.Machine
end

