-- ==== Sys2Proof/Laws/Budget.lean ====
section
/-! SUPPORT. The budget unit (04_power_budget.md): what a recompute leaves, and that every operation keeps the claim table in rank order and the marks the admitted prefix. -/

namespace Sys2Proof.Machine

/-! ## The claim table in rank order -/

theorem ranked_iff (cs : List Claim) :
    ranked cs = true ↔ (cs.map Claim.rank).Pairwise (· ≤ ·) ∧ (cs.map (·.slot)).Nodup := by
  simp [ranked]

theorem dropClaim_eq_filter (n : Nat) (cs : List Claim) : dropClaim n cs = cs.filter (fun c => c.slot != n) := by
  induction cs with
  | nil => rfl
  | cons c t ih =>
    simp only [dropClaim]
    split
    · next h => simp [h, ih]
    · next h => simp [h, ih]

theorem ranked_dropClaim (n : Nat) (cs : List Claim) (h : ranked cs = true) : ranked (dropClaim n cs) = true := by
  rw [ranked_iff] at *
  rw [dropClaim_eq_filter]
  exact ⟨List.Pairwise.sublist (List.Sublist.map _ List.filter_sublist) h.1,
    List.Pairwise.sublist (List.Sublist.map _ List.filter_sublist) h.2⟩

theorem slot_not_mem_dropClaim (n : Nat) (cs : List Claim) : n ∉ (dropClaim n cs).map (·.slot) := by
  rw [dropClaim_eq_filter]
  simp

theorem mem_insertClaim (c x : Claim) (cs : List Claim) : x ∈ insertClaim c cs ↔ x = c ∨ x ∈ cs := by
  induction cs with
  | nil => simp [insertClaim]
  | cons y t ih =>
    simp only [insertClaim]
    split
    · simp
    · simp only [List.mem_cons, ih]
      constructor
      · rintro (h | h | h) <;> simp [h]
      · rintro (h | h | h) <;> simp [h]

theorem ranked_insertClaim (c : Claim) (cs : List Claim) (h : ranked cs = true) (hn : c.slot ∉ cs.map (·.slot)) :
    ranked (insertClaim c cs) = true := by
  rw [ranked_iff] at *
  induction cs with
  | nil => simp [insertClaim]
  | cons y t ih =>
    simp only [List.map_cons, List.pairwise_cons, List.nodup_cons, List.mem_cons, not_or, List.mem_map,
      forall_exists_index, and_imp, forall_apply_eq_imp_iff₂] at h hn
    obtain ⟨⟨h1, h2⟩, h3, h4⟩ := h
    simp only [insertClaim]
    split
    · next hlt =>
      simp only [List.map_cons, List.pairwise_cons, List.nodup_cons, List.mem_cons, List.mem_map, forall_eq_or_imp,
        forall_exists_index, and_imp, forall_apply_eq_imp_iff₂, not_or]
      exact ⟨⟨⟨Nat.le_of_lt hlt, fun x hx => Nat.le_trans (Nat.le_of_lt hlt) (h1 x hx)⟩, h1, h2⟩, hn, h3, h4⟩
    · next hlt =>
      have ih' := ih ⟨h2, h4⟩ (by simpa using hn.2)
      simp only [List.map_cons, List.pairwise_cons, List.nodup_cons, List.mem_map, forall_exists_index, and_imp,
        forall_apply_eq_imp_iff₂]
      refine ⟨⟨fun x hx => ?_, ih'.1⟩, ?_, ih'.2⟩
      · rcases (mem_insertClaim c x t).1 hx with e | e
        · subst e; omega
        · exact h1 x e
      · rintro ⟨x, hx, e⟩
        rcases (mem_insertClaim c x t).1 hx with e' | e'
        · subst e'; exact hn.1 e
        · exact h3 ⟨x, e', e⟩

/-- Entering a claim at its rank, in place of the slot's old one, keeps the table ranked (R61, R62). -/
theorem ranked_replace (c : Claim) (cs : List Claim) (h : ranked cs = true) :
    ranked (insertClaim c (dropClaim c.slot cs)) = true :=
  ranked_insertClaim c _ (ranked_dropClaim _ _ h) (slot_not_mem_dropClaim _ _)

/-! ## The admitted prefix -/

theorem markClaims_map {α : Type} (f : Claim → α) (hf : ∀ c b, f { c with admitted := b } = f c) (k n : Nat) (b : Bool)
    (cs : List Claim) : (markClaims k n b cs).map f = cs.map f := by
  induction cs generalizing n b with
  | nil => rfl
  | cons c t ih => simp [markClaims, hf, ih]

theorem ranked_markClaims (k n : Nat) (b : Bool) (cs : List Claim) (h : ranked cs = true) :
    ranked (markClaims k n b cs) = true := by
  rw [ranked_iff] at *
  rw [markClaims_map Claim.rank (fun _ _ => rfl), markClaims_map (fun c : Claim => c.slot) (fun _ _ => rfl)]
  exact h

/-- Marking looks at no mark: marking twice is marking once. -/
theorem markClaims_idem (k n : Nat) (b : Bool) (cs : List Claim) :
    markClaims k n b (markClaims k n b cs) = markClaims k n b cs := by
  induction cs generalizing n b with
  | nil => rfl
  | cons c t ih => simp [markClaims, ih]

/-- What a recompute leaves in BU (R68, R71). -/
theorem recompute_bu (s : State) : (recompute s).bu = s.recomputed := by
  unfold recompute
  dsimp only
  (repeat' split) <;> simp

theorem recomputed_sound (s : State) (h : ranked s.bu.claims = true) : s.recomputed.sound = true := by
  simp [State.recomputed, Budget.sound, Budget.marked, markClaims_idem, ranked_markClaims, h]

theorem Budget.sound_ranked {b : Budget} (h : b.sound = true) : ranked b.claims = true := by
  simp only [Budget.sound, Bool.and_eq_true] at h
  exact h.1

@[simp] theorem recompute_budget (s : State) (h0 : ranked s.bu.claims = true) : (recompute s).bu.sound = true := by
  rw [recompute_bu]
  exact recomputed_sound s h0

@[simp] theorem recompute_sound (s : State) (h0 : s.bu.sound = true) : (recompute s).bu.sound = true :=
  recompute_budget s (Budget.sound_ranked h0)

/-! ## Every operation keeps the budget unit sound -/


@[simp] theorem setClaim_budget (c : Claim) (s : State) (h0 : s.bu.sound = true) : (setClaim c s).bu.sound = true := by
  have hr := ranked_replace c _ (Budget.sound_ranked h0)
  unfold setClaim
  (repeat' split) <;> simp [h0, hr]

@[simp] theorem delClaim_budget (n : Nat) (s : State) (h0 : s.bu.sound = true) : (delClaim n s).bu.sound = true := by
  have hr := ranked_dropClaim n _ (Budget.sound_ranked h0)
  unfold delClaim
  split <;> simp [h0, hr]

@[simp] theorem writeClaim_budget (n : Nat) (s : State) (h0 : s.bu.sound = true) :
    (writeClaim n s).bu.sound = true := by
  generalize h : writeClaim n s = t
  unfold writeClaim at h
  try dsimp only at h
  (repeat' split at h) <;> subst h <;> simp (maxDischargeDepth := 12) [h0]

@[simp] theorem withdraw_budget (s : State) (h0 : s.bu.sound = true) :
    (withdraw s).bu.sound = true := by
  generalize h : withdraw s = t
  unfold withdraw at h
  try dsimp only at h
  (repeat' split at h) <;> subst h <;> simp (maxDischargeDepth := 12) [h0]

@[simp] theorem enterClaiming_budget (s : State) (h0 : s.bu.sound = true) :
    (enterClaiming s).bu.sound = true := by
  generalize h : enterClaiming s = t
  unfold enterClaiming at h
  try dsimp only at h
  (repeat' split at h) <;> subst h <;> simp (maxDischargeDepth := 12) [h0]

@[simp] theorem endCooldown_budget (s : State) (h0 : s.bu.sound = true) :
    (endCooldown s).bu.sound = true := by
  generalize h : endCooldown s = t
  unfold endCooldown at h
  try dsimp only at h
  (repeat' split at h) <;> subst h <;> simp (maxDischargeDepth := 12) [h0]

@[simp] theorem faultPath_budget (r : OffReason) (c : PowerCause) (s : State) (h0 : s.bu.sound = true) :
    (faultPath r c s).bu.sound = true := by
  generalize h : faultPath r c s = t
  unfold faultPath at h
  try dsimp only at h
  (repeat' split at h) <;> subst h <;> simp (maxDischargeDepth := 12) [h0]

@[simp] theorem endStopping_budget (s : State) (h0 : s.bu.sound = true) :
    (endStopping s).bu.sound = true := by
  generalize h : endStopping s = t
  unfold endStopping at h
  try dsimp only at h
  (repeat' split at h) <;> subst h <;> simp (maxDischargeDepth := 12) [h0]

@[simp] theorem powerOffPath_budget (s : State) (h0 : s.bu.sound = true) :
    (powerOffPath s).bu.sound = true := by
  generalize h : powerOffPath s = t
  unfold powerOffPath at h
  try dsimp only at h
  (repeat' split at h) <;> subst h <;> simp (maxDischargeDepth := 12) [h0]

@[simp] theorem forcedOff_budget (c : ShedCause) (s : State) (h0 : s.bu.sound = true) :
    (forcedOff c s).bu.sound = true := by
  generalize h : forcedOff c s = t
  unfold forcedOff at h
  try dsimp only at h
  (repeat' split at h) <;> subst h <;> simp (maxDischargeDepth := 12) [h0]

@[simp] theorem stoppingFall_budget (c : ShedCause) (s : State) (h0 : s.bu.sound = true) :
    (stoppingFall c s).bu.sound = true := by
  generalize h : stoppingFall c s = t
  unfold stoppingFall at h
  try dsimp only at h
  (repeat' split at h) <;> subst h <;> simp (maxDischargeDepth := 12) [h0]

@[simp] theorem dropToFloor_budget (c : ShedCause) (s : State) (h0 : s.bu.sound = true) :
    (dropToFloor c s).bu.sound = true := by
  generalize h : dropToFloor c s = t
  unfold dropToFloor at h
  try dsimp only at h
  (repeat' split at h) <;> subst h <;> simp (maxDischargeDepth := 12) [h0]

@[simp] theorem lossAtRest_budget (s : State) (h0 : s.bu.sound = true) :
    (lossAtRest s).bu.sound = true := by
  generalize h : lossAtRest s = t
  unfold lossAtRest at h
  try dsimp only at h
  (repeat' split at h) <;> subst h <;> simp (maxDischargeDepth := 12) [h0]

@[simp] theorem endLevelRaise_budget (c d : ShedCause) (b : Bool) (s : State) (h0 : s.bu.sound = true) :
    (endLevelRaise c d b s).bu.sound = true := by
  generalize h : endLevelRaise c d b s = t
  unfold endLevelRaise at h
  try dsimp only at h
  (repeat' split at h) <;> subst h <;> simp (maxDischargeDepth := 12) [h0]

@[simp] theorem failAmountRaise_budget (s : State) (h0 : s.bu.sound = true) :
    (failAmountRaise s).bu.sound = true := by
  generalize h : failAmountRaise s = t
  unfold failAmountRaise at h
  try dsimp only at h
  (repeat' split at h) <;> subst h <;> simp (maxDischargeDepth := 12) [h0]

@[simp] theorem lookRaise_budget (s : State) (h0 : s.bu.sound = true) :
    (lookRaise s).bu.sound = true := by
  generalize h : lookRaise s = t
  unfold lookRaise at h
  try dsimp only at h
  (repeat' split at h) <;> subst h <;> simp (maxDischargeDepth := 12) [h0]

@[simp] theorem shedAct_budget (c : ShedCause) (s : State) (h0 : s.bu.sound = true) :
    (shedAct c s).bu.sound = true := by
  generalize h : shedAct c s = t
  unfold shedAct at h
  try dsimp only at h
  (repeat' split at h) <;> subst h <;> simp (maxDischargeDepth := 12) [h0]

@[simp] theorem stalePath_budget (s : State) (h0 : s.bu.sound = true) :
    (stalePath s).bu.sound = true := by
  generalize h : stalePath s = t
  unfold stalePath at h
  try dsimp only at h
  (repeat' split at h) <;> subst h <;> simp (maxDischargeDepth := 12) [h0]

@[simp] theorem staleCleared_budget (s : State) (h0 : s.bu.sound = true) :
    (staleCleared s).bu.sound = true := by
  generalize h : staleCleared s = t
  unfold staleCleared at h
  try dsimp only at h
  (repeat' split at h) <;> subst h <;> simp (maxDischargeDepth := 12) [h0]

@[simp] theorem rewriteLanes_budget (s : State) (h0 : s.bu.sound = true) :
    (rewriteLanes s).bu.sound = true := by
  generalize h : rewriteLanes s = t
  unfold rewriteLanes at h
  try dsimp only at h
  (repeat' split at h) <;> subst h <;> simp (maxDischargeDepth := 12) [h0]

@[simp] theorem serve_budget (r : Request) (q : List Request) (s : State) (h0 : s.bu.sound = true) :
    (serve r q s).bu.sound = true := by
  generalize h : serve r q s = t
  unfold serve at h
  try dsimp only at h
  (repeat' split at h) <;> subst h <;> simp (maxDischargeDepth := 12) [h0]

@[simp] theorem reservationFails_budget (s : State) (h0 : s.bu.sound = true) :
    (reservationFails s).bu.sound = true := by
  generalize h : reservationFails s = t
  unfold reservationFails at h
  try dsimp only at h
  (repeat' split at h) <;> subst h <;> simp (maxDischargeDepth := 12) [h0]

@[simp] theorem arbiterLoop_budget (n : Nat) (s : State) (h0 : s.bu.sound = true) :
    (arbiterLoop n s).bu.sound = true := by
  induction n generalizing s with
  | zero => simp (maxDischargeDepth := 12) [arbiterLoop, h0]
  | succ n ih => unfold arbiterLoop; dsimp only; (repeat' split) <;> simp (maxDischargeDepth := 12) [ih, h0]

@[simp] theorem arbiter_budget (s : State) (h0 : s.bu.sound = true) :
    (arbiter s).bu.sound = true := by
  generalize h : arbiter s = t
  unfold arbiter at h
  try dsimp only at h
  (repeat' split at h) <;> subst h <;> simp (maxDischargeDepth := 12) [h0]

@[simp] theorem roundLoop_budget (n : Nat) (s : State) (h0 : s.bu.sound = true) :
    (roundLoop n s).bu.sound = true := by
  induction n generalizing s with
  | zero => simp (maxDischargeDepth := 12) [roundLoop, h0]
  | succ n ih => unfold roundLoop; dsimp only; (repeat' split) <;> simp (maxDischargeDepth := 12) [ih, h0]

@[simp] theorem arbiterRound_budget (s : State) (h0 : s.bu.sound = true) :
    (arbiterRound s).bu.sound = true := by
  generalize h : arbiterRound s = t
  unfold arbiterRound at h
  try dsimp only at h
  (repeat' split at h) <;> subst h <;> simp (maxDischargeDepth := 12) [h0]

@[simp] theorem reservationEnds_budget (s : State) (h0 : s.bu.sound = true) :
    (reservationEnds s).bu.sound = true := by
  generalize h : reservationEnds s = t
  unfold reservationEnds at h
  try dsimp only at h
  (repeat' split at h) <;> subst h <;> simp (maxDischargeDepth := 12) [h0]

@[simp] theorem enterOn_budget (s : State) (h0 : s.bu.sound = true) :
    (enterOn s).bu.sound = true := by
  generalize h : enterOn s = t
  unfold enterOn at h
  try dsimp only at h
  (repeat' split at h) <;> subst h <;> simp (maxDischargeDepth := 12) [h0]

@[simp] theorem enterEnabling_budget (s : State) (h0 : s.bu.sound = true) :
    (enterEnabling s).bu.sound = true := by
  generalize h : enterEnabling s = t
  unfold enterEnabling at h
  try dsimp only at h
  (repeat' split at h) <;> subst h <;> simp (maxDischargeDepth := 12) [h0]

@[simp] theorem psLoss_budget (s : State) (h0 : s.bu.sound = true) :
    (psLoss s).bu.sound = true := by
  generalize h : psLoss s = t
  unfold psLoss at h
  try dsimp only at h
  (repeat' split at h) <;> subst h <;> simp (maxDischargeDepth := 12) [h0]

@[simp] theorem psAdmitted_budget (s : State) (h0 : s.bu.sound = true) :
    (psAdmitted s).bu.sound = true := by
  generalize h : psAdmitted s = t
  unfold psAdmitted at h
  try dsimp only at h
  (repeat' split at h) <;> subst h <;> simp (maxDischargeDepth := 12) [h0]

@[simp] theorem noticed_budget (f : State → State) (s : State) (h0 : (f s).bu.sound = true) :
    (noticed f s).bu.sound = true := by
  generalize h : noticed f s = t
  unfold noticed at h
  try dsimp only at h
  (repeat' split at h) <;> subst h <;> simp (maxDischargeDepth := 12) [h0]

@[simp] theorem takeRelease_budget (n : Nat) (s : State) (h0 : s.bu.sound = true) :
    (takeRelease n s).bu.sound = true := by
  generalize h : takeRelease n s = t
  unfold takeRelease at h
  try dsimp only at h
  (repeat' split at h) <;> subst h <;> simp (maxDischargeDepth := 12) [h0]

@[simp] theorem takeRequest_budget (n m : Nat) (e : RosterEntry) (s : State) (h0 : s.bu.sound = true) :
    (takeRequest n m e s).bu.sound = true := by
  generalize h : takeRequest n m e s = t
  unfold takeRequest at h
  try dsimp only at h
  (repeat' split at h) <;> subst h <;> simp (maxDischargeDepth := 12) [h0]

@[simp] theorem lanesRemoved_budget (n : Nat) (s : State) (h0 : s.bu.sound = true) :
    (lanesRemoved n s).bu.sound = true := by
  generalize h : lanesRemoved n s = t
  unfold lanesRemoved at h
  try dsimp only at h
  (repeat' split at h) <;> subst h <;> simp (maxDischargeDepth := 12) [h0]

@[simp] theorem lanesUnpowered_budget (n : Nat) (s : State) (h0 : s.bu.sound = true) :
    (lanesUnpowered n s).bu.sound = true := by
  generalize h : lanesUnpowered n s = t
  unfold lanesUnpowered at h
  try dsimp only at h
  (repeat' split at h) <;> subst h <;> simp (maxDischargeDepth := 12) [h0]

@[simp] theorem laneFaultOn_budget (n : Nat) (s : State) (h0 : s.bu.sound = true) :
    (laneFaultOn n s).bu.sound = true := by
  generalize h : laneFaultOn n s = t
  unfold laneFaultOn at h
  try dsimp only at h
  (repeat' split at h) <;> subst h <;> simp (maxDischargeDepth := 12) [h0]

@[simp] theorem laneFaultOff_budget (n : Nat) (s : State) (h0 : s.bu.sound = true) :
    (laneFaultOff n s).bu.sound = true := by
  generalize h : laneFaultOff n s = t
  unfold laneFaultOff at h
  try dsimp only at h
  (repeat' split at h) <;> subst h <;> simp (maxDischargeDepth := 12) [h0]

@[simp] theorem evaluateSupply_budget (s : State) (h0 : s.bu.sound = true) :
    (evaluateSupply s).bu.sound = true := by
  generalize h : evaluateSupply s = t
  unfold evaluateSupply at h
  try dsimp only at h
  (repeat' split at h) <;> subst h <;> simp (maxDischargeDepth := 12) [h0]

@[simp] theorem supplyOff_budget (s : State) (h0 : s.bu.sound = true) :
    (supplyOff s).bu.sound = true := by
  generalize h : supplyOff s = t
  unfold supplyOff at h
  try dsimp only at h
  (repeat' split at h) <;> subst h <;> simp (maxDischargeDepth := 12) [h0]

@[simp] theorem supplyOn_budget (s : State) (h0 : s.bu.sound = true) :
    (supplyOn s).bu.sound = true := by
  generalize h : supplyOn s = t
  unfold supplyOn at h
  try dsimp only at h
  (repeat' split at h) <;> subst h <;> simp (maxDischargeDepth := 12) [h0]

@[simp] theorem fanChanged_budget (b : Bool) (s : State) (h0 : s.bu.sound = true) :
    (fanChanged b s).bu.sound = true := by
  generalize h : fanChanged b s = t
  unfold fanChanged at h
  try dsimp only at h
  (repeat' split at h) <;> subst h <;> simp (maxDischargeDepth := 12) [h0]

@[simp] theorem judgeOne_budget (k : Nat) (s : State) (h0 : s.bu.sound = true) :
    (judgeOne k s).bu.sound = true := by
  generalize h : judgeOne k s = t
  unfold judgeOne at h
  try dsimp only at h
  (repeat' split at h) <;> subst h <;> simp (maxDischargeDepth := 12) [h0]

@[simp] theorem judgeRotors_budget (ks : List Nat) (s : State) (h0 : s.bu.sound = true) :
    (judgeRotors ks s).bu.sound = true := by
  induction ks generalizing s with
  | nil => simp (maxDischargeDepth := 12) [judgeRotors, h0]
  | cons k ks ih => unfold judgeRotors; split <;> simp (maxDischargeDepth := 12) [ih, h0]

@[simp] theorem judgeSustained_budget (s : State) (h0 : s.bu.sound = true) :
    (judgeSustained s).bu.sound = true := by
  generalize h : judgeSustained s = t
  unfold judgeSustained at h
  try dsimp only at h
  (repeat' split at h) <;> subst h <;> simp (maxDischargeDepth := 12) [h0]

@[simp] theorem fanBeat_budget (s : State) (h0 : s.bu.sound = true) :
    (fanBeat s).bu.sound = true := by
  generalize h : fanBeat s = t
  unfold fanBeat at h
  try dsimp only at h
  (repeat' split at h) <;> subst h <;> simp (maxDischargeDepth := 12) [h0]

@[simp] theorem thermalReports_budget (a b : TChannel) (h : Bool) (s : State) (h0 : s.bu.sound = true) :
    (thermalReports a b h s).bu.sound = true := by
  generalize h : thermalReports a b h s = t
  unfold thermalReports at h
  try dsimp only at h
  (repeat' split at h) <;> subst h <;> simp (maxDischargeDepth := 12) [h0]

@[simp] theorem convertT_budget (k : Nat) (d : Option Int) (s : State) (h0 : s.bu.sound = true) :
    (convertT k d s).bu.sound = true := by
  generalize h : convertT k d s = t
  unfold convertT at h
  try dsimp only at h
  (repeat' split at h) <;> subst h <;> simp (maxDischargeDepth := 12) [h0]

@[simp] theorem supplyConversion_budget (k : Nat) (s : State) (h0 : s.bu.sound = true) :
    (supplyConversion k s).bu.sound = true := by
  generalize h : supplyConversion k s = t
  unfold supplyConversion at h
  try dsimp only at h
  (repeat' split at h) <;> subst h <;> simp (maxDischargeDepth := 12) [h0]

@[simp] theorem convert_budget (d : Option Int) (v : Int) (s : State) (h0 : s.bu.sound = true) :
    (convert d v s).bu.sound = true := by
  generalize h : convert d v s = t
  unfold convert at h
  try dsimp only at h
  (repeat' split at h) <;> subst h <;> simp (maxDischargeDepth := 12) [h0]

@[simp] theorem budgetRemoved_budget (n : Nat) (s : State) (h0 : s.bu.sound = true) :
    (budgetRemoved n s).bu.sound = true := by
  have hr := ranked_dropClaim n _ (Budget.sound_ranked h0)
  simp [budgetRemoved, hr]

@[simp] theorem lanesReported_budget (n : Nat) (s : State) (h0 : s.bu.sound = true) :
    (lanesReported n s).bu.sound = true := by
  generalize h : lanesReported n s = t
  unfold lanesReported at h
  try dsimp only at h
  (repeat' split at h) <;> subst h <;> simp (maxDischargeDepth := 12) [h0]

@[simp] theorem removalReport_budget (n : Nat) (s : State) (h0 : s.bu.sound = true) :
    (removalReport n s).bu.sound = true := by
  generalize h : removalReport n s = t
  unfold removalReport at h
  try dsimp only at h
  (repeat' split at h) <;> subst h <;> simp (maxDischargeDepth := 12) [h0]

@[simp] theorem removeEntry_budget (k : ChangeKind) (n : Nat) (e : RosterEntry) (s : State) (h0 : s.bu.sound = true) :
    (removeEntry k n e s).bu.sound = true := by
  generalize h : removeEntry k n e s = t
  unfold removeEntry at h
  try dsimp only at h
  (repeat' split at h) <;> subst h <;> simp (maxDischargeDepth := 12) [h0]

@[simp] theorem budgetPresent_budget (n : Nat) (e : RosterEntry) (s : State) (h0 : s.bu.sound = true) :
    (budgetPresent n e s).bu.sound = true := by
  have hr := Budget.sound_ranked h0
  unfold budgetPresent
  cases h : e.claim with
  | none => simp [hr]
  | some p =>
    have hq := ranked_replace (claimOfPart n e.role p) _ hr
    exact noticed_budget _ s (recompute_budget _ hq)

@[simp] theorem insertEntry_budget (n : Nat) (e : RosterEntry) (s : State) (h0 : s.bu.sound = true) :
    (insertEntry n e s).bu.sound = true := by
  generalize h : insertEntry n e s = t
  unfold insertEntry at h
  try dsimp only at h
  (repeat' split at h) <;> subst h <;> simp (maxDischargeDepth := 12) [h0]

@[simp] theorem swapEntry_budget (n : Nat) (e : RosterEntry) (s : State) (h0 : s.bu.sound = true) :
    (swapEntry n e s).bu.sound = true := by
  generalize h : swapEntry n e s = t
  unfold swapEntry at h
  try dsimp only at h
  (repeat' split at h) <;> subst h <;> simp (maxDischargeDepth := 12) [h0]

@[simp] theorem budgetAnnounced_budget (n : Nat) (e e' : RosterEntry) (s : State) (h0 : s.bu.sound = true) :
    (budgetAnnounced n e e' s).bu.sound = true := by
  unfold budgetAnnounced
  refine noticed_budget _ s ?_
  dsimp only
  cases e'.claim <;> split <;> simp [h0]

@[simp] theorem announceEntry_budget (n : Nat) (e : RosterEntry) (a : Announcement) (s : State) (h0 : s.bu.sound = true) :
    (announceEntry n e a s).bu.sound = true := by
  generalize h : announceEntry n e a s = t
  unfold announceEntry at h
  try dsimp only at h
  (repeat' split at h) <;> subst h <;> simp (maxDischargeDepth := 12) [h0]

@[simp] theorem takeAnnounce_budget (n : Nat) (a : Announcement) (s : State) (h0 : s.bu.sound = true) :
    (takeAnnounce n a s).bu.sound = true := by
  generalize h : takeAnnounce n a s = t
  unfold takeAnnounce at h
  try dsimp only at h
  (repeat' split at h) <;> subst h <;> simp (maxDischargeDepth := 12) [h0]

@[simp] theorem takeJoin_budget (n : Nat) (r : Role) (i : Identity) (s : State) (h0 : s.bu.sound = true) :
    (takeJoin n r i s).bu.sound = true := by
  generalize h : takeJoin n r i s = t
  unfold takeJoin at h
  try dsimp only at h
  (repeat' split at h) <;> subst h <;> simp (maxDischargeDepth := 12) [h0]

@[simp] theorem takeClaim_budget (n : Nat) (e : RosterEntry) (p : ClaimPart) (s : State) (h0 : s.bu.sound = true) :
    (takeClaim n e p s).bu.sound = true := by
  generalize h : takeClaim n e p s = t
  unfold takeClaim at h
  try dsimp only at h
  (repeat' split at h) <;> subst h <;> simp (maxDischargeDepth := 12) [h0]

@[simp] theorem takeReleaseFrame_budget (n : Nat) (e : RosterEntry) (s : State) (h0 : s.bu.sound = true) :
    (takeReleaseFrame n e s).bu.sound = true := by
  generalize h : takeReleaseFrame n e s = t
  unfold takeReleaseFrame at h
  try dsimp only at h
  (repeat' split at h) <;> subst h <;> simp (maxDischargeDepth := 12) [h0]

@[simp] theorem takeCapacity_budget (n : Nat) (e : RosterEntry) (p : SupplyPart) (s : State) (h0 : s.bu.sound = true) :
    (takeCapacity n e p s).bu.sound = true := by
  generalize h : takeCapacity n e p s = t
  unfold takeCapacity at h
  try dsimp only at h
  (repeat' split at h) <;> subst h <;> simp (maxDischargeDepth := 12) [h0]

@[simp] theorem takeFanstat_budget (n : Nat) (e : RosterEntry) (p : FanPart) (s : State) (h0 : s.bu.sound = true) :
    (takeFanstat n e p s).bu.sound = true := by
  generalize h : takeFanstat n e p s = t
  unfold takeFanstat at h
  try dsimp only at h
  (repeat' split at h) <;> subst h <;> simp (maxDischargeDepth := 12) [h0]

@[simp] theorem grantFrame_budget (n : Nat) (e : RosterEntry) (p : List Byte) (s : State) (h0 : s.bu.sound = true) :
    (grantFrame n e p s).bu.sound = true := by
  generalize h : grantFrame n e p s = t
  unfold grantFrame at h
  try dsimp only at h
  (repeat' split at h) <;> subst h <;> simp (maxDischargeDepth := 12) [h0]

@[simp] theorem requestFrame_budget (n : Nat) (e : RosterEntry) (p : List Byte) (s : State) (h0 : s.bu.sound = true) :
    (requestFrame n e p s).bu.sound = true := by
  generalize h : requestFrame n e p s = t
  unfold requestFrame at h
  try dsimp only at h
  (repeat' split at h) <;> subst h <;> simp (maxDischargeDepth := 12) [h0]

@[simp] theorem releaseFrame_budget (n : Nat) (e : RosterEntry) (p : List Byte) (s : State) (h0 : s.bu.sound = true) :
    (releaseFrame n e p s).bu.sound = true := by
  generalize h : releaseFrame n e p s = t
  unfold releaseFrame at h
  try dsimp only at h
  (repeat' split at h) <;> subst h <;> simp (maxDischargeDepth := 12) [h0]

@[simp] theorem deliverKnown_budget (k n : Nat) (e : RosterEntry) (p : List Byte) (s : State) (h0 : s.bu.sound = true) :
    (deliverKnown k n e p s).bu.sound = true := by
  generalize h : deliverKnown k n e p s = t
  unfold deliverKnown at h
  try dsimp only at h
  (repeat' split at h) <;> subst h <;> simp (maxDischargeDepth := 12) [h0]

@[simp] theorem deliverUnknown_budget (k n : Nat) (p : List Byte) (s : State) (h0 : s.bu.sound = true) :
    (deliverUnknown k n p s).bu.sound = true := by
  generalize h : deliverUnknown k n p s = t
  unfold deliverUnknown at h
  try dsimp only at h
  (repeat' split at h) <;> subst h <;> simp (maxDischargeDepth := 12) [h0]

@[simp] theorem deliver_budget (k n : Nat) (p : List Byte) (s : State) (h0 : s.bu.sound = true) :
    (deliver k n p s).bu.sound = true := by
  generalize h : deliver k n p s = t
  unfold deliver at h
  try dsimp only at h
  (repeat' split at h) <;> subst h <;> simp (maxDischargeDepth := 12) [h0]

@[simp] theorem roleEntry_budget (s : State) (h0 : s.bu.sound = true) :
    (roleEntry s).bu.sound = true := by
  generalize h : roleEntry s = t
  unfold roleEntry at h
  try dsimp only at h
  (repeat' split at h) <;> subst h <;> simp (maxDischargeDepth := 12) [h0]

@[simp] theorem enterActive_budget (s : State) (h0 : s.bu.sound = true) :
    (enterActive s).bu.sound = true := by
  generalize h : enterActive s = t
  unfold enterActive at h
  try dsimp only at h
  (repeat' split at h) <;> subst h <;> simp (maxDischargeDepth := 12) [h0]

@[simp] theorem enterReady_budget (s : State) (h0 : s.bu.sound = true) :
    (enterReady s).bu.sound = true := by
  generalize h : enterReady s = t
  unfold enterReady at h
  try dsimp only at h
  (repeat' split at h) <;> subst h <;> simp (maxDischargeDepth := 12) [h0]

@[simp] theorem dropOwnClaim_budget (s : State) (h0 : s.bu.sound = true) :
    (dropOwnClaim s).bu.sound = true := by
  generalize h : dropOwnClaim s = t
  unfold dropOwnClaim at h
  try dsimp only at h
  (repeat' split at h) <;> subst h <;> simp (maxDischargeDepth := 12) [h0]

@[simp] theorem endGrace_budget (s : State) (h0 : s.bu.sound = true) :
    (endGrace s).bu.sound = true := by
  generalize h : endGrace s = t
  unfold endGrace at h
  try dsimp only at h
  (repeat' split at h) <;> subst h <;> simp (maxDischargeDepth := 12) [h0]

@[simp] theorem claimingOff_budget (s : State) (h0 : s.bu.sound = true) :
    (claimingOff s).bu.sound = true := by
  generalize h : claimingOff s = t
  unfold claimingOff at h
  try dsimp only at h
  (repeat' split at h) <;> subst h <;> simp (maxDischargeDepth := 12) [h0]

@[simp] theorem consumerOpens_budget (s : State) (h0 : s.bu.sound = true) :
    (consumerOpens s).bu.sound = true := by
  generalize h : consumerOpens s = t
  unfold consumerOpens at h
  try dsimp only at h
  (repeat' split at h) <;> subst h <;> simp (maxDischargeDepth := 12) [h0]

@[simp] theorem supplyOpens_budget (s : State) (h0 : s.bu.sound = true) :
    (supplyOpens s).bu.sound = true := by
  generalize h : supplyOpens s = t
  unfold supplyOpens at h
  try dsimp only at h
  (repeat' split at h) <;> subst h <;> simp (maxDischargeDepth := 12) [h0]

@[simp] theorem handleOpens_budget (s : State) (h0 : s.bu.sound = true) :
    (handleOpens s).bu.sound = true := by
  generalize h : handleOpens s = t
  unfold handleOpens at h
  try dsimp only at h
  (repeat' split at h) <;> subst h <;> simp (maxDischargeDepth := 12) [h0]

@[simp] theorem rejoin_budget (s : State) (h0 : s.bu.sound = true) :
    (rejoin s).bu.sound = true := by
  generalize h : rejoin s = t
  unfold rejoin at h
  try dsimp only at h
  (repeat' split at h) <;> subst h <;> simp (maxDischargeDepth := 12) [h0]

@[simp] theorem unseatedPath_budget (s : State) (h0 : s.bu.sound = true) :
    (unseatedPath s).bu.sound = true := by
  generalize h : unseatedPath s = t
  unfold unseatedPath at h
  try dsimp only at h
  (repeat' split at h) <;> subst h <;> simp (maxDischargeDepth := 12) [h0]

@[simp] theorem listenMore_budget (s : State) (h0 : s.bu.sound = true) :
    (listenMore s).bu.sound = true := by
  generalize h : listenMore s = t
  unfold listenMore at h
  try dsimp only at h
  (repeat' split at h) <;> subst h <;> simp (maxDischargeDepth := 12) [h0]

/-- The end of a min-off of 0 ms keeps the claim table ranked and marked. -/
@[simp] theorem minOffAtOnce_budget (s t : State) (h0 : t.bu.sound = true) : (minOffAtOnce s t).bu.sound = true := by
  unfold minOffAtOnce
  split <;> simp [h0]

end Sys2Proof.Machine
end

