-- ==== Sys2Proof/Laws/Claims.lean ====
section
/-! SUPPORT. The claim of one slot: what entering, dropping and marking claims leave of it, and the own claim after PS
has written or withdrawn it (R64, R82). -/

namespace Sys2Proof.Machine

theorem claimOf_markClaims (n k sum : Nat) (b : Bool) (cs : List Claim) :
    (claimOf (markClaims k sum b cs) n).map (fun c => { c with admitted := false }) =
      (claimOf cs n).map (fun c => { c with admitted := false }) := by
  induction cs generalizing sum b with
  | nil => rfl
  | cons c t ih =>
    simp only [markClaims, claimOf]
    split
    · rfl
    · exact ih _ _

theorem claimOf_markClaims_none (n k sum : Nat) (b : Bool) (cs : List Claim) :
    claimOf (markClaims k sum b cs) n = none ↔ claimOf cs n = none := by
  have := claimOf_markClaims n k sum b cs
  cases h : claimOf (markClaims k sum b cs) n <;> cases h' : claimOf cs n <;> simp_all

theorem claimOf_insertClaim (c : Claim) (cs : List Claim) (h : claimOf cs c.slot = none) :
    claimOf (insertClaim c cs) c.slot = some c := by
  induction cs with
  | nil => simp [insertClaim, claimOf]
  | cons x t ih =>
    simp only [claimOf] at h
    split at h
    · cases h
    · next hx =>
      simp only [insertClaim]
      split
      · simp [claimOf]
      · simp [claimOf, hx, ih h]

theorem claimOf_insertClaim_ne (c : Claim) (cs : List Claim) (n : Nat) (h : n ≠ c.slot) :
    claimOf (insertClaim c cs) n = claimOf cs n := by
  induction cs with
  | nil => simp [insertClaim, claimOf, Ne.symm h]
  | cons x t ih =>
    simp only [insertClaim]
    split
    · simp [claimOf, Ne.symm h]
    · simp [claimOf, ih]

theorem claimOf_dropClaim (n : Nat) (cs : List Claim) : claimOf (dropClaim n cs) n = none := by
  induction cs with
  | nil => rfl
  | cons x t ih =>
    simp only [dropClaim]
    split
    · exact ih
    · simp [claimOf, ih, *]

theorem claimOf_dropClaim_ne (k n : Nat) (cs : List Claim) (h : n ≠ k) :
    claimOf (dropClaim k cs) n = claimOf cs n := by
  induction cs with
  | nil => rfl
  | cons x t ih =>
    simp only [dropClaim]
    split
    · next hx => subst hx; simp [claimOf, ih, Ne.symm h]
    · simp [claimOf, ih]

/-- The fields of a claim, its mark aside. -/
def Claim.plain (c : Claim) : Claim := { c with admitted := false }

theorem Claim.same_iff (a b : Claim) : a.same b = true ↔ a.plain = b.plain := by
  simp [Claim.same, Claim.plain]

theorem recompute_claimOf (s : State) (n : Nat) :
    (claimOf (recompute s).bu.claims n).map Claim.plain = (claimOf s.bu.claims n).map Claim.plain := by
  rw [recompute_bu]
  exact claimOf_markClaims n _ _ _ _

/-- A claim entered reads as it was entered, its mark aside (R63). -/
theorem setClaim_claimOf (c : Claim) (s : State) :
    (claimOf (setClaim c s).bu.claims c.slot).map Claim.plain = some c.plain := by
  unfold setClaim
  split
  · next old h =>
    split
    · next hs =>
      rw [h]
      simpa using (Claim.same_iff _ _).1 hs
    · rw [recompute_claimOf]
      simp [claimOf_insertClaim, claimOf_dropClaim]
  · rw [recompute_claimOf]
    simp [claimOf_insertClaim, claimOf_dropClaim]

/-- A claim dropped is gone (R63). -/
theorem delClaim_claimOf (n : Nat) (s : State) : claimOf (delClaim n s).bu.claims n = none := by
  unfold delClaim
  split
  · have := recompute_claimOf { s with bu := { s.bu with claims := dropClaim n s.bu.claims } } n
    simpa [claimOf_dropClaim] using this
  · assumption

theorem State.ownClaim_congr {s t : State} (h : s.lc = t.lc) (h1 : s.bu = t.bu) : s.ownClaim = t.ownClaim := by
  simp [State.ownClaim, State.ownSlot, h, h1]

/-- The own claim after PS has written it (R82). -/
theorem writeClaim_ownClaim (n : Nat) (s : State) :
    (writeClaim n s).ownClaim.map Claim.plain = some (s.claimWith n).plain := by
  unfold writeClaim
  split
  · next h =>
    unfold State.claimReads at h
    split at h
    · next old ho =>
      rw [ho]
      simpa using (Claim.same_iff _ _).1 h
    · cases h
  · have hs : (s.claimWith n).slot = s.ownSlot := rfl
    have := setClaim_claimOf (s.claimWith n) s
    rw [hs] at this
    simpa [State.ownClaim, State.ownSlot] using this

/-- PS has withdrawn the own claim (R82). -/
theorem withdraw_ownClaim (s : State) : (withdraw s).ownClaim = none := by
  unfold withdraw
  split
  · have := delClaim_claimOf s.ownSlot s
    simpa [State.ownClaim, State.ownSlot] using this
  · assumption

end Sys2Proof.Machine
end

