-- ==== Sys2Proof/Laws/LaneTables.lean ====
section
/-! SUPPORT. The lane manager of an uplink (09_uplink_lanes.md): every operation keeps lanes and holders in order and the request queue within its eight places. -/

namespace Sys2Proof.Machine

theorem LaneManager.sound_iff (m : LaneManager) :
    m.sound = true ↔ slotWf m.lanes = true ∧ slotWf m.holders = true ∧ m.queue.length ≤ Config.requestQueue := by
  simp [LaneManager.sound, and_assoc]

@[simp] theorem LaneManager.sound_lanes {m : LaneManager} (h : m.sound = true) : slotWf m.lanes = true :=
  ((LaneManager.sound_iff m).1 h).1

@[simp] theorem LaneManager.sound_holders {m : LaneManager} (h : m.sound = true) : slotWf m.holders = true :=
  ((LaneManager.sound_iff m).1 h).2.1

@[simp] theorem LaneManager.sound_queue {m : LaneManager} (h : m.sound = true) : m.queue.length ≤ Config.requestQueue :=
  ((LaneManager.sound_iff m).1 h).2.2

@[simp] theorem LaneManager.sound_mk (l : SlotMap LaneUse) (h : SlotMap Holder) (q : List Request)
    (r : Option Reservation) :
    LaneManager.sound ⟨l, h, q, r⟩ = (slotWf l && slotWf h && decide (q.length ≤ Config.requestQueue)) := rfl

@[simp] theorem filter_length_bound {α : Type} (f : α → Bool) (q : List α) (k : Nat) (h : q.length ≤ k) :
    (q.filter f).length ≤ k :=
  Nat.le_trans (List.length_filter_le f q) h

theorem tail_length_bound {α : Type} {q t : List α} {a : α} {k : Nat} (e : q = a :: t) (h : q.length ≤ k) :
    t.length ≤ k := by
  subst e
  simp only [List.length_cons] at h
  omega

/-- A longer lane map keeps its form when lanes of a list become RESERVED. -/
@[simp] theorem reserveLanes_wf (n : Nat) (ks : List Nat) (m : SlotMap LaneUse) (h : slotWf m = true) :
    slotWf (reserveLanes n ks m) = true := by
  induction ks generalizing m with
  | nil => exact h
  | cons k ks ih => exact ih _ (slotSet_wf _ _ _ h)

@[simp] theorem State.putHolder_lanesSound (s : State) (n : Nat) (x : Holder) (h : s.lm.sound = true) :
    (s.putHolder n x).lm.sound = true := by
  unfold State.putHolder
  dsimp only
  split <;> simp [h]

/-! ## Every operation keeps the lane manager sound -/

@[simp] theorem postGrant_lanesSound (n : Nat) (s : State) (h0 : s.lm.sound = true) :
    (postGrant n s).lm.sound = true := by
  generalize h : postGrant n s = t
  unfold postGrant at h
  try dsimp only at h
  (repeat' split at h) <;> subst h <;> simp (maxDischargeDepth := 12) [h0]

@[simp] theorem answer_lanesSound (n : Nat) (a : Answer) (s : State) (h0 : s.lm.sound = true) :
    (answer n a s).lm.sound = true := by
  generalize h : answer n a s = t
  unfold answer at h
  try dsimp only at h
  (repeat' split at h) <;> subst h <;> simp (maxDischargeDepth := 12) [h0]

@[simp] theorem laneFreed_lanesSound (s : State) (h0 : s.lm.sound = true) :
    (laneFreed s).lm.sound = true := by
  generalize h : laneFreed s = t
  unfold laneFreed at h
  try dsimp only at h
  (repeat' split at h) <;> subst h <;> simp (maxDischargeDepth := 12) [h0]

@[simp] theorem State.beginTx_lanesSound (s : State) (c : Choice) (p : List Byte) (h0 : s.lm.sound = true) :
    (s.beginTx c p).lm.sound = true := by
  generalize h : s.beginTx c p = t
  unfold State.beginTx at h
  try dsimp only at h
  (repeat' split at h) <;> subst h <;> simp (maxDischargeDepth := 12) [h0]

@[simp] theorem State.emptyChoice_lanesSound (s : State) (c : Choice) (h0 : s.lm.sound = true) :
    (s.emptyChoice c).lm.sound = true := by
  generalize h : s.emptyChoice c = t
  unfold State.emptyChoice at h
  try dsimp only at h
  (repeat' split at h) <;> subst h <;> simp (maxDischargeDepth := 12) [h0]

@[simp] theorem startLoop_lanesSound (n : Nat) (s : State) (h0 : s.lm.sound = true) :
    (startLoop n s).lm.sound = true := by
  induction n generalizing s with
  | zero => simp (maxDischargeDepth := 12) [startLoop, h0]
  | succ n ih => unfold startLoop; (repeat' split) <;> simp (maxDischargeDepth := 12) [ih, h0]

@[simp] theorem startFrame_lanesSound (s : State) (h0 : s.lm.sound = true) :
    (startFrame s).lm.sound = true := by
  generalize h : startFrame s = t
  unfold startFrame at h
  try dsimp only at h
  (repeat' split at h) <;> subst h <;> simp (maxDischargeDepth := 12) [h0]

@[simp] theorem laneSent_lanesSound (e : LaneEntry) (s : State) (h0 : s.lm.sound = true) :
    (laneSent e s).lm.sound = true := by
  generalize h : laneSent e s = t
  unfold laneSent at h
  try dsimp only at h
  (repeat' split at h) <;> subst h <;> simp (maxDischargeDepth := 12) [h0]

@[simp] theorem endLane_lanesSound (e : Ending) (d : Bool) (s : State) (h0 : s.lm.sound = true) :
    (endLane e d s).lm.sound = true := by
  generalize h : endLane e d s = t
  unfold endLane at h
  try dsimp only at h
  (repeat' split at h) <;> subst h <;> simp (maxDischargeDepth := 12) [h0]

@[simp] theorem endTx_lanesSound (t : Tx) (e : Ending) (s : State) (h0 : s.lm.sound = true) :
    (endTx t e s).lm.sound = true := by
  generalize h : endTx t e s = t
  unfold endTx at h
  try dsimp only at h
  (repeat' split at h) <;> subst h <;> simp (maxDischargeDepth := 12) [h0]

@[simp] theorem emptyOutbound_lanesSound (s : State) (h0 : s.lm.sound = true) :
    (emptyOutbound s).lm.sound = true := by
  generalize h : emptyOutbound s = t
  unfold emptyOutbound at h
  try dsimp only at h
  (repeat' split at h) <;> subst h <;> simp (maxDischargeDepth := 12) [h0]

@[simp] theorem cutOutbound_lanesSound (s : State) (h0 : s.lm.sound = true) :
    (cutOutbound s).lm.sound = true := by
  generalize h : cutOutbound s = t
  unfold cutOutbound at h
  try dsimp only at h
  (repeat' split at h) <;> subst h <;> simp (maxDischargeDepth := 12) [h0]

@[simp] theorem endReservation_lanesSound (s : State) (h0 : s.lm.sound = true) :
    (endReservation s).lm.sound = true := by
  generalize h : endReservation s = t
  unfold endReservation at h
  try dsimp only at h
  (repeat' split at h) <;> subst h <;> simp (maxDischargeDepth := 12) [h0]

@[simp] theorem answerAll_lanesSound (a : Answer) (ts : List Nat) (s : State) (h0 : s.lm.sound = true) :
    (answerAll a ts s).lm.sound = true := by
  induction ts generalizing s with
  | nil => simp (maxDischargeDepth := 12) [answerAll, h0]
  | cons t ts ih => simp (maxDischargeDepth := 12) [answerAll, ih, h0]

@[simp] theorem giveUpLanes_lanesSound (a b : Answer) (s : State) (h0 : s.lm.sound = true) :
    (giveUpLanes a b s).lm.sound = true := by
  generalize h : giveUpLanes a b s = t
  unfold giveUpLanes at h
  try dsimp only at h
  (repeat' split at h) <;> subst h <;> simp (maxDischargeDepth := 12) [h0]

@[simp] theorem ownShed_lanesSound (s : State) (h0 : s.lm.sound = true) :
    (ownShed s).lm.sound = true := by
  generalize h : ownShed s = t
  unfold ownShed at h
  try dsimp only at h
  (repeat' split at h) <;> subst h <;> simp (maxDischargeDepth := 12) [h0]

@[simp] theorem leavingOn_lanesSound (r : LaneReason) (s : State) (h0 : s.lm.sound = true) :
    (leavingOn r s).lm.sound = true := by
  generalize h : leavingOn r s = t
  unfold leavingOn at h
  try dsimp only at h
  (repeat' split at h) <;> subst h <;> simp (maxDischargeDepth := 12) [h0]

@[simp] theorem faultPath_lanesSound (r : OffReason) (c : PowerCause) (s : State) (h0 : s.lm.sound = true) :
    (faultPath r c s).lm.sound = true := by
  generalize h : faultPath r c s = t
  unfold faultPath at h
  try dsimp only at h
  (repeat' split at h) <;> subst h <;> simp (maxDischargeDepth := 12) [h0]

@[simp] theorem powerOffPath_lanesSound (s : State) (h0 : s.lm.sound = true) :
    (powerOffPath s).lm.sound = true := by
  generalize h : powerOffPath s = t
  unfold powerOffPath at h
  try dsimp only at h
  (repeat' split at h) <;> subst h <;> simp (maxDischargeDepth := 12) [h0]

@[simp] theorem forcedOff_lanesSound (c : ShedCause) (s : State) (h0 : s.lm.sound = true) :
    (forcedOff c s).lm.sound = true := by
  generalize h : forcedOff c s = t
  unfold forcedOff at h
  try dsimp only at h
  (repeat' split at h) <;> subst h <;> simp (maxDischargeDepth := 12) [h0]

@[simp] theorem stoppingFall_lanesSound (c : ShedCause) (s : State) (h0 : s.lm.sound = true) :
    (stoppingFall c s).lm.sound = true := by
  generalize h : stoppingFall c s = t
  unfold stoppingFall at h
  try dsimp only at h
  (repeat' split at h) <;> subst h <;> simp (maxDischargeDepth := 12) [h0]

@[simp] theorem dropToFloor_lanesSound (c : ShedCause) (s : State) (h0 : s.lm.sound = true) :
    (dropToFloor c s).lm.sound = true := by
  generalize h : dropToFloor c s = t
  unfold dropToFloor at h
  try dsimp only at h
  (repeat' split at h) <;> subst h <;> simp (maxDischargeDepth := 12) [h0]

@[simp] theorem lossAtRest_lanesSound (s : State) (h0 : s.lm.sound = true) :
    (lossAtRest s).lm.sound = true := by
  generalize h : lossAtRest s = t
  unfold lossAtRest at h
  try dsimp only at h
  (repeat' split at h) <;> subst h <;> simp (maxDischargeDepth := 12) [h0]

@[simp] theorem endLevelRaise_lanesSound (c d : ShedCause) (b : Bool) (s : State) (h0 : s.lm.sound = true) :
    (endLevelRaise c d b s).lm.sound = true := by
  generalize h : endLevelRaise c d b s = t
  unfold endLevelRaise at h
  try dsimp only at h
  (repeat' split at h) <;> subst h <;> simp (maxDischargeDepth := 12) [h0]

@[simp] theorem failAmountRaise_lanesSound (s : State) (h0 : s.lm.sound = true) :
    (failAmountRaise s).lm.sound = true := by
  generalize h : failAmountRaise s = t
  unfold failAmountRaise at h
  try dsimp only at h
  (repeat' split at h) <;> subst h <;> simp (maxDischargeDepth := 12) [h0]

@[simp] theorem lookRaise_lanesSound (s : State) (h0 : s.lm.sound = true) :
    (lookRaise s).lm.sound = true := by
  generalize h : lookRaise s = t
  unfold lookRaise at h
  try dsimp only at h
  (repeat' split at h) <;> subst h <;> simp (maxDischargeDepth := 12) [h0]

@[simp] theorem shedAct_lanesSound (c : ShedCause) (s : State) (h0 : s.lm.sound = true) :
    (shedAct c s).lm.sound = true := by
  generalize h : shedAct c s = t
  unfold shedAct at h
  try dsimp only at h
  (repeat' split at h) <;> subst h <;> simp (maxDischargeDepth := 12) [h0]

@[simp] theorem stalePath_lanesSound (s : State) (h0 : s.lm.sound = true) :
    (stalePath s).lm.sound = true := by
  generalize h : stalePath s = t
  unfold stalePath at h
  try dsimp only at h
  (repeat' split at h) <;> subst h <;> simp (maxDischargeDepth := 12) [h0]

@[simp] theorem staleCleared_lanesSound (s : State) (h0 : s.lm.sound = true) :
    (staleCleared s).lm.sound = true := by
  generalize h : staleCleared s = t
  unfold staleCleared at h
  try dsimp only at h
  (repeat' split at h) <;> subst h <;> simp (maxDischargeDepth := 12) [h0]

@[simp] theorem rewriteLanes_lanesSound (s : State) (h0 : s.lm.sound = true) :
    (rewriteLanes s).lm.sound = true := by
  generalize h : rewriteLanes s = t
  unfold rewriteLanes at h
  try dsimp only at h
  (repeat' split at h) <;> subst h <;> simp (maxDischargeDepth := 12) [h0]

@[simp] theorem serve_lanesSound (r : Request) (q : List Request) (s : State) (h0 : s.lm.sound = true)
    (h1 : q.length ≤ Config.requestQueue) : (serve r q s).lm.sound = true := by
  generalize h : serve r q s = t
  unfold serve at h
  dsimp only at h
  subst h
  simp [h0, h1]

@[simp] theorem reservationFails_lanesSound (s : State) (h0 : s.lm.sound = true) :
    (reservationFails s).lm.sound = true := by
  generalize h : reservationFails s = t
  unfold reservationFails at h
  try dsimp only at h
  (repeat' split at h) <;> subst h <;> simp (maxDischargeDepth := 12) [h0]

@[simp] theorem arbiterLoop_lanesSound (n : Nat) (s : State) (h0 : s.lm.sound = true) :
    (arbiterLoop n s).lm.sound = true := by
  induction n generalizing s with
  | zero => simp [arbiterLoop, h0]
  | succ n ih =>
    unfold arbiterLoop
    dsimp only
    split
    · exact h0
    · next r rest e =>
      have h1 := tail_length_bound e (LaneManager.sound_queue h0)
      (repeat' split) <;> simp (maxDischargeDepth := 12) [ih, h0, h1]

@[simp] theorem arbiter_lanesSound (s : State) (h0 : s.lm.sound = true) :
    (arbiter s).lm.sound = true := by
  generalize h : arbiter s = t
  unfold arbiter at h
  try dsimp only at h
  (repeat' split at h) <;> subst h <;> simp (maxDischargeDepth := 12) [h0]

@[simp] theorem roundLoop_lanesSound (n : Nat) (s : State) (h0 : s.lm.sound = true) :
    (roundLoop n s).lm.sound = true := by
  induction n generalizing s with
  | zero => simp [roundLoop, h0]
  | succ n ih =>
    unfold roundLoop
    dsimp only
    split
    · exact h0
    · next r rest e =>
      have h1 := tail_length_bound e (LaneManager.sound_queue h0)
      (repeat' split) <;> simp (maxDischargeDepth := 12) [ih, h0, h1]

@[simp] theorem arbiterRound_lanesSound (s : State) (h0 : s.lm.sound = true) :
    (arbiterRound s).lm.sound = true := by
  generalize h : arbiterRound s = t
  unfold arbiterRound at h
  try dsimp only at h
  (repeat' split at h) <;> subst h <;> simp (maxDischargeDepth := 12) [h0]

@[simp] theorem reservationEnds_lanesSound (s : State) (h0 : s.lm.sound = true) :
    (reservationEnds s).lm.sound = true := by
  generalize h : reservationEnds s = t
  unfold reservationEnds at h
  try dsimp only at h
  (repeat' split at h) <;> subst h <;> simp (maxDischargeDepth := 12) [h0]

@[simp] theorem enterOn_lanesSound (s : State) (h0 : s.lm.sound = true) :
    (enterOn s).lm.sound = true := by
  generalize h : enterOn s = t
  unfold enterOn at h
  try dsimp only at h
  (repeat' split at h) <;> subst h <;> simp (maxDischargeDepth := 12) [h0]

@[simp] theorem enterEnabling_lanesSound (s : State) (h0 : s.lm.sound = true) :
    (enterEnabling s).lm.sound = true := by
  generalize h : enterEnabling s = t
  unfold enterEnabling at h
  try dsimp only at h
  (repeat' split at h) <;> subst h <;> simp (maxDischargeDepth := 12) [h0]

@[simp] theorem psLoss_lanesSound (s : State) (h0 : s.lm.sound = true) :
    (psLoss s).lm.sound = true := by
  generalize h : psLoss s = t
  unfold psLoss at h
  try dsimp only at h
  (repeat' split at h) <;> subst h <;> simp (maxDischargeDepth := 12) [h0]

@[simp] theorem psAdmitted_lanesSound (s : State) (h0 : s.lm.sound = true) :
    (psAdmitted s).lm.sound = true := by
  generalize h : psAdmitted s = t
  unfold psAdmitted at h
  try dsimp only at h
  (repeat' split at h) <;> subst h <;> simp (maxDischargeDepth := 12) [h0]

@[simp] theorem noticed_lanesSound (f : State → State) (s : State) (h0 : (f s).lm.sound = true) :
    (noticed f s).lm.sound = true := by
  generalize h : noticed f s = t
  unfold noticed at h
  try dsimp only at h
  (repeat' split at h) <;> subst h <;> simp (maxDischargeDepth := 12) [h0]

@[simp] theorem cancelReservation_lanesSound (n : Nat) (s : State) (h0 : s.lm.sound = true) :
    (cancelReservation n s).lm.sound = true := by
  generalize h : cancelReservation n s = t
  unfold cancelReservation at h
  try dsimp only at h
  (repeat' split at h) <;> subst h <;> simp (maxDischargeDepth := 12) [h0]

@[simp] theorem drainLanes_lanesSound (n : Nat) (s : State) (h0 : s.lm.sound = true) :
    (drainLanes n s).lm.sound = true := by
  generalize h : drainLanes n s = t
  unfold drainLanes at h
  try dsimp only at h
  (repeat' split at h) <;> subst h <;> simp (maxDischargeDepth := 12) [h0]

@[simp] theorem takeRelease_lanesSound (n : Nat) (s : State) (h0 : s.lm.sound = true) :
    (takeRelease n s).lm.sound = true := by
  generalize h : takeRelease n s = t
  unfold takeRelease at h
  try dsimp only at h
  (repeat' split at h) <;> subst h <;> simp (maxDischargeDepth := 12) [h0]

@[simp] theorem takeRequest_lanesSound (n m : Nat) (e : RosterEntry) (s : State) (h0 : s.lm.sound = true) :
    (takeRequest n m e s).lm.sound = true := by
  generalize h : takeRequest n m e s = t
  unfold takeRequest at h
  dsimp only at h
  (repeat' split at h) <;> subst h <;> try simp (maxDischargeDepth := 12) [h0, recount]
  next hq => exact arbiter_lanesSound _ (by simp [h0]; omega)

@[simp] theorem lanesRemoved_lanesSound (n : Nat) (s : State) (h0 : s.lm.sound = true) :
    (lanesRemoved n s).lm.sound = true := by
  generalize h : lanesRemoved n s = t
  unfold lanesRemoved at h
  try dsimp only at h
  (repeat' split at h) <;> subst h <;> simp (maxDischargeDepth := 12) [h0]

@[simp] theorem lanesUnpowered_lanesSound (n : Nat) (s : State) (h0 : s.lm.sound = true) :
    (lanesUnpowered n s).lm.sound = true := by
  generalize h : lanesUnpowered n s = t
  unfold lanesUnpowered at h
  try dsimp only at h
  (repeat' split at h) <;> subst h <;> simp (maxDischargeDepth := 12) [h0]

@[simp] theorem laneFaultOn_lanesSound (n : Nat) (s : State) (h0 : s.lm.sound = true) :
    (laneFaultOn n s).lm.sound = true := by
  generalize h : laneFaultOn n s = t
  unfold laneFaultOn at h
  try dsimp only at h
  (repeat' split at h) <;> subst h <;> simp (maxDischargeDepth := 12) [h0]

@[simp] theorem laneFaultOff_lanesSound (n : Nat) (s : State) (h0 : s.lm.sound = true) :
    (laneFaultOff n s).lm.sound = true := by
  generalize h : laneFaultOff n s = t
  unfold laneFaultOff at h
  try dsimp only at h
  (repeat' split at h) <;> subst h <;> simp (maxDischargeDepth := 12) [h0]

@[simp] theorem thermalReports_lanesSound (a b : TChannel) (h : Bool) (s : State) (h0 : s.lm.sound = true) :
    (thermalReports a b h s).lm.sound = true := by
  generalize h : thermalReports a b h s = t
  unfold thermalReports at h
  try dsimp only at h
  (repeat' split at h) <;> subst h <;> simp (maxDischargeDepth := 12) [h0]

@[simp] theorem convertT_lanesSound (k : Nat) (d : Option Int) (s : State) (h0 : s.lm.sound = true) :
    (convertT k d s).lm.sound = true := by
  generalize h : convertT k d s = t
  unfold convertT at h
  try dsimp only at h
  (repeat' split at h) <;> subst h <;> simp (maxDischargeDepth := 12) [h0]

@[simp] theorem convert_lanesSound (d : Option Int) (v : Int) (s : State) (h0 : s.lm.sound = true) :
    (convert d v s).lm.sound = true := by
  generalize h : convert d v s = t
  unfold convert at h
  try dsimp only at h
  (repeat' split at h) <;> subst h <;> simp (maxDischargeDepth := 12) [h0]

@[simp] theorem budgetRemoved_lanesSound (n : Nat) (s : State) (h0 : s.lm.sound = true) :
    (budgetRemoved n s).lm.sound = true := by
  generalize h : budgetRemoved n s = t
  unfold budgetRemoved at h
  try dsimp only at h
  (repeat' split at h) <;> subst h <;> simp (maxDischargeDepth := 12) [h0]

@[simp] theorem lanesReported_lanesSound (n : Nat) (s : State) (h0 : s.lm.sound = true) :
    (lanesReported n s).lm.sound = true := by
  generalize h : lanesReported n s = t
  unfold lanesReported at h
  try dsimp only at h
  (repeat' split at h) <;> subst h <;> simp (maxDischargeDepth := 12) [h0]

@[simp] theorem removalReport_lanesSound (n : Nat) (s : State) (h0 : s.lm.sound = true) :
    (removalReport n s).lm.sound = true := by
  generalize h : removalReport n s = t
  unfold removalReport at h
  try dsimp only at h
  (repeat' split at h) <;> subst h <;> simp (maxDischargeDepth := 12) [h0]

@[simp] theorem removeEntry_lanesSound (k : ChangeKind) (n : Nat) (e : RosterEntry) (s : State) (h0 : s.lm.sound = true) :
    (removeEntry k n e s).lm.sound = true := by
  generalize h : removeEntry k n e s = t
  unfold removeEntry at h
  try dsimp only at h
  (repeat' split at h) <;> subst h <;> simp (maxDischargeDepth := 12) [h0]

@[simp] theorem budgetPresent_lanesSound (n : Nat) (e : RosterEntry) (s : State) (h0 : s.lm.sound = true) :
    (budgetPresent n e s).lm.sound = true := by
  generalize h : budgetPresent n e s = t
  unfold budgetPresent at h
  try dsimp only at h
  (repeat' split at h) <;> subst h <;> simp (maxDischargeDepth := 12) [h0]

@[simp] theorem insertEntry_lanesSound (n : Nat) (e : RosterEntry) (s : State) (h0 : s.lm.sound = true) :
    (insertEntry n e s).lm.sound = true := by
  generalize h : insertEntry n e s = t
  unfold insertEntry at h
  try dsimp only at h
  (repeat' split at h) <;> subst h <;> simp (maxDischargeDepth := 12) [h0]

@[simp] theorem swapEntry_lanesSound (n : Nat) (e : RosterEntry) (s : State) (h0 : s.lm.sound = true) :
    (swapEntry n e s).lm.sound = true := by
  generalize h : swapEntry n e s = t
  unfold swapEntry at h
  try dsimp only at h
  (repeat' split at h) <;> subst h <;> simp (maxDischargeDepth := 12) [h0]

@[simp] theorem budgetAnnounced_lanesSound (n : Nat) (e e' : RosterEntry) (s : State) (h0 : s.lm.sound = true) :
    (budgetAnnounced n e e' s).lm.sound = true := by
  generalize h : budgetAnnounced n e e' s = t
  unfold budgetAnnounced at h
  try dsimp only at h
  (repeat' split at h) <;> subst h <;> simp (maxDischargeDepth := 12) [h0]

@[simp] theorem announceEntry_lanesSound (n : Nat) (e : RosterEntry) (a : Announcement) (s : State) (h0 : s.lm.sound = true) :
    (announceEntry n e a s).lm.sound = true := by
  generalize h : announceEntry n e a s = t
  unfold announceEntry at h
  try dsimp only at h
  (repeat' split at h) <;> subst h <;> simp (maxDischargeDepth := 12) [h0]

@[simp] theorem takeAnnounce_lanesSound (n : Nat) (a : Announcement) (s : State) (h0 : s.lm.sound = true) :
    (takeAnnounce n a s).lm.sound = true := by
  generalize h : takeAnnounce n a s = t
  unfold takeAnnounce at h
  try dsimp only at h
  (repeat' split at h) <;> subst h <;> simp (maxDischargeDepth := 12) [h0]

@[simp] theorem takeJoin_lanesSound (n : Nat) (r : Role) (i : Identity) (s : State) (h0 : s.lm.sound = true) :
    (takeJoin n r i s).lm.sound = true := by
  generalize h : takeJoin n r i s = t
  unfold takeJoin at h
  try dsimp only at h
  (repeat' split at h) <;> subst h <;> simp (maxDischargeDepth := 12) [h0]

@[simp] theorem takeClaim_lanesSound (n : Nat) (e : RosterEntry) (p : ClaimPart) (s : State) (h0 : s.lm.sound = true) :
    (takeClaim n e p s).lm.sound = true := by
  generalize h : takeClaim n e p s = t
  unfold takeClaim at h
  try dsimp only at h
  (repeat' split at h) <;> subst h <;> simp (maxDischargeDepth := 12) [h0]

@[simp] theorem takeReleaseFrame_lanesSound (n : Nat) (e : RosterEntry) (s : State) (h0 : s.lm.sound = true) :
    (takeReleaseFrame n e s).lm.sound = true := by
  generalize h : takeReleaseFrame n e s = t
  unfold takeReleaseFrame at h
  try dsimp only at h
  (repeat' split at h) <;> subst h <;> simp (maxDischargeDepth := 12) [h0]

@[simp] theorem takeCapacity_lanesSound (n : Nat) (e : RosterEntry) (p : SupplyPart) (s : State) (h0 : s.lm.sound = true) :
    (takeCapacity n e p s).lm.sound = true := by
  generalize h : takeCapacity n e p s = t
  unfold takeCapacity at h
  try dsimp only at h
  (repeat' split at h) <;> subst h <;> simp (maxDischargeDepth := 12) [h0]

@[simp] theorem takeFanstat_lanesSound (n : Nat) (e : RosterEntry) (p : FanPart) (s : State) (h0 : s.lm.sound = true) :
    (takeFanstat n e p s).lm.sound = true := by
  generalize h : takeFanstat n e p s = t
  unfold takeFanstat at h
  try dsimp only at h
  (repeat' split at h) <;> subst h <;> simp (maxDischargeDepth := 12) [h0]

@[simp] theorem grantFrame_lanesSound (n : Nat) (e : RosterEntry) (p : List Byte) (s : State) (h0 : s.lm.sound = true) :
    (grantFrame n e p s).lm.sound = true := by
  generalize h : grantFrame n e p s = t
  unfold grantFrame at h
  try dsimp only at h
  (repeat' split at h) <;> subst h <;> simp (maxDischargeDepth := 12) [h0]

@[simp] theorem requestFrame_lanesSound (n : Nat) (e : RosterEntry) (p : List Byte) (s : State) (h0 : s.lm.sound = true) :
    (requestFrame n e p s).lm.sound = true := by
  generalize h : requestFrame n e p s = t
  unfold requestFrame at h
  try dsimp only at h
  (repeat' split at h) <;> subst h <;> simp (maxDischargeDepth := 12) [h0]

@[simp] theorem releaseFrame_lanesSound (n : Nat) (e : RosterEntry) (p : List Byte) (s : State) (h0 : s.lm.sound = true) :
    (releaseFrame n e p s).lm.sound = true := by
  generalize h : releaseFrame n e p s = t
  unfold releaseFrame at h
  try dsimp only at h
  (repeat' split at h) <;> subst h <;> simp (maxDischargeDepth := 12) [h0]

@[simp] theorem deliverKnown_lanesSound (k n : Nat) (e : RosterEntry) (p : List Byte) (s : State) (h0 : s.lm.sound = true) :
    (deliverKnown k n e p s).lm.sound = true := by
  generalize h : deliverKnown k n e p s = t
  unfold deliverKnown at h
  try dsimp only at h
  (repeat' split at h) <;> subst h <;> simp (maxDischargeDepth := 12) [h0]

@[simp] theorem deliverUnknown_lanesSound (k n : Nat) (p : List Byte) (s : State) (h0 : s.lm.sound = true) :
    (deliverUnknown k n p s).lm.sound = true := by
  generalize h : deliverUnknown k n p s = t
  unfold deliverUnknown at h
  try dsimp only at h
  (repeat' split at h) <;> subst h <;> simp (maxDischargeDepth := 12) [h0]

@[simp] theorem deliver_lanesSound (k n : Nat) (p : List Byte) (s : State) (h0 : s.lm.sound = true) :
    (deliver k n p s).lm.sound = true := by
  generalize h : deliver k n p s = t
  unfold deliver at h
  try dsimp only at h
  (repeat' split at h) <;> subst h <;> simp (maxDischargeDepth := 12) [h0]

@[simp] theorem completeRemoval_lanesSound (s : State) (h0 : s.lm.sound = true) :
    (completeRemoval s).lm.sound = true := by
  generalize h : completeRemoval s = t
  unfold completeRemoval at h
  try dsimp only at h
  (repeat' split at h) <;> subst h <;> simp (maxDischargeDepth := 12) [h0]

@[simp] theorem endGrace_lanesSound (s : State) (h0 : s.lm.sound = true) :
    (endGrace s).lm.sound = true := by
  generalize h : endGrace s = t
  unfold endGrace at h
  try dsimp only at h
  (repeat' split at h) <;> subst h <;> simp (maxDischargeDepth := 12) [h0]

@[simp] theorem finish_lanesSound (s : State) (h0 : s.lm.sound = true) :
    (finish s).lm.sound = true := by
  generalize h : finish s = t
  unfold finish at h
  try dsimp only at h
  (repeat' split at h) <;> subst h <;> simp (maxDischargeDepth := 12) [h0]

@[simp] theorem minOffAtOnce_lanesSound (s t : State) (h0 : t.lm.sound = true) :
    (minOffAtOnce s t).lm.sound = true := by
  unfold minOffAtOnce
  split <;> simp [h0]

@[simp] theorem consumerOpens_lanesSound (s : State) (h0 : s.lm.sound = true) :
    (consumerOpens s).lm.sound = true := by
  generalize h : consumerOpens s = t
  unfold consumerOpens at h
  try dsimp only at h
  (repeat' split at h) <;> subst h <;> simp (maxDischargeDepth := 12) [h0]

@[simp] theorem supplyOpens_lanesSound (s : State) (h0 : s.lm.sound = true) :
    (supplyOpens s).lm.sound = true := by
  generalize h : supplyOpens s = t
  unfold supplyOpens at h
  try dsimp only at h
  (repeat' split at h) <;> subst h <;> simp (maxDischargeDepth := 12) [h0]

@[simp] theorem handleOpens_lanesSound (s : State) (h0 : s.lm.sound = true) :
    (handleOpens s).lm.sound = true := by
  generalize h : handleOpens s = t
  unfold handleOpens at h
  try dsimp only at h
  (repeat' split at h) <;> subst h <;> simp (maxDischargeDepth := 12) [h0]

@[simp] theorem repostGrants_lanesSound (ts : List Nat) (s : State) (h0 : s.lm.sound = true) :
    (repostGrants ts s).lm.sound = true := by
  induction ts generalizing s with
  | nil => simp (maxDischargeDepth := 12) [repostGrants, h0]
  | cons t ts ih => unfold repostGrants; split <;> simp (maxDischargeDepth := 12) [ih, h0]

@[simp] theorem rejoin_lanesSound (s : State) (h0 : s.lm.sound = true) :
    (rejoin s).lm.sound = true := by
  generalize h : rejoin s = t
  unfold rejoin at h
  try dsimp only at h
  (repeat' split at h) <;> subst h <;> simp (maxDischargeDepth := 12) [h0]

@[simp] theorem unseatedPath_lanesSound (s : State) (h0 : s.lm.sound = true) :
    (unseatedPath s).lm.sound = true := by
  generalize h : unseatedPath s = t
  unfold unseatedPath at h
  try dsimp only at h
  (repeat' split at h) <;> subst h <;> simp (maxDischargeDepth := 12) [h0]

end Sys2Proof.Machine
end

