-- ==== Sys2Proof/Laws/Port.lean ====
section
/-! SUPPORT. How a command of the local port ends (R183, R185): refused with a status, or run with its fields placed; and
the end that every command shares. -/

namespace Sys2Proof.Machine

/-- With no removal due, the end of a command only starts a frame. -/
theorem finish_of_not_due {s : State} (h : s.removalDue = false) : finish s = startFrame s := by
  simp [finish, h]

/-- A line that is not free starts no frame. -/
theorem startFrame_of_busy {s : State} (h : s.lineFree = false) : startFrame s = s := by
  simp [startFrame, h]

/-- With no removal due and the line not free, a command ends where its effect ends. -/
theorem finish_of_busy {s : State} (h : s.removalDue = false) (h1 : s.lineFree = false) : finish s = s := by
  rw [finish_of_not_due h, startFrame_of_busy h1]

/-- A removal is due by LC and PS alone. -/
theorem removalDue_congr {s t : State} (h : s.lc = t.lc) (h1 : s.ps = t.ps) : s.removalDue = t.removalDue := by
  simp [State.removalDue, State.consumer, State.isRole, State.role, State.inLife, State.ejecting, h, h1]

theorem completeRemoval_not_due (s : State) : (completeRemoval s).removalDue = false := by
  simp [completeRemoval, State.removalDue, State.inLife]

/-- No removal stands due after a command (R175). -/
theorem finish_not_due (s : State) : (finish s).removalDue = false := by
  unfold finish
  split
  · rw [removalDue_congr (t := completeRemoval s) (by simp) (by simp)]
    exact completeRemoval_not_due s
  · next h =>
    rw [removalDue_congr (t := s) (by simp) (by simp)]
    simpa using h

/-- What completing a removal changes of LC and PS. -/
theorem completeRemoval_ps (s : State) : (completeRemoval s).ps = { s.ps with pendingOn := false } := by
  simp [completeRemoval]

/-- The end of a command changes of PS at most the pending-on mark. -/
theorem finish_ps (s : State) : (finish s).ps = { s.ps with pendingOn := s.ps.pendingOn && !s.removalDue } := by
  unfold finish
  split
  · next h => simp [completeRemoval_ps, h]
  · next h => simp [h]

/-- The life-cycle fields that the end of a command leaves as they are. -/
@[simp] theorem finish_lc (s : State) :
    (finish s).lc.straps = s.lc.straps ∧ (finish s).lc.keys = s.lc.keys ∧ (finish s).lc.handle = s.lc.handle ∧
      (finish s).lc.debounce = s.lc.debounce ∧ (finish s).lc.restartWait = s.lc.restartWait ∧
      (finish s).lc.unseatedWait = s.lc.unseatedWait ∧ (finish s).lc.aloneStart = s.lc.aloneStart ∧
      (finish s).lc.goRemembered = s.lc.goRemembered ∧ (finish s).lc.listenCount = s.lc.listenCount := by
  unfold finish
  split <;> simp [completeRemoval]

/-! ## A min-off of 0 ms (R83) -/

/-- Where an event leaves the power state as it was, no min-off has started in it. -/
theorem minOffAtOnce_of_same {s t : State} (h : t.ps.power = s.ps.power) : minOffAtOnce s t = t := by
  have hc : s.minOffEnds t = false := by
    unfold State.minOffEnds
    rw [h]
    cases s.ps.power <;> simp
  simp [minOffAtOnce, hc]

/-- Where an event does not end in COOLDOWN, no min-off ends with it. -/
theorem minOffAtOnce_of_power {s t : State} (h : t.ps.power ≠ .cooldown) : minOffAtOnce s t = t := by
  simp [minOffAtOnce, State.minOffEnds, h]

/-- A min-off of more than 0 ms ends by its own command. -/
theorem minOffAtOnce_of_minOff {s t : State} (h : t.lc.keys.minOff ≠ 0) : minOffAtOnce s t = t := by
  simp [minOffAtOnce, State.minOffEnds, h]

/-- The separate event of a min-off of 0 ms, where the event before it has started one. -/
theorem minOffAtOnce_of_fall {s t : State} (hc : t.consumer = true) (hs : s.ps.power ≠ .cooldown)
    (ht : t.ps.power = .cooldown) (h : t.lc.keys.minOff = 0) : minOffAtOnce s t = finish (endCooldown t) := by
  simp [minOffAtOnce, State.minOffEnds, hc, hs, ht, h]

/-- No removal stands due after it. -/
theorem minOffAtOnce_not_due {s t : State} (h : t.removalDue = false) : (minOffAtOnce s t).removalDue = false := by
  unfold minOffAtOnce
  split
  · exact finish_not_due _
  · exact h

/-- What the separate event leaves as the event before it did. -/
@[simp] theorem minOffAtOnce_frame (s t : State) :
    (minOffAtOnce s t).now = t.now ∧ (minOffAtOnce s t).pending = t.pending ∧ (minOffAtOnce s t).pins = t.pins ∧
    (minOffAtOnce s t).bi.rate = t.bi.rate ∧ (minOffAtOnce s t).bi.synced = t.bi.synced ∧
    (minOffAtOnce s t).bi.failRun = t.bi.failRun ∧ (minOffAtOnce s t).bi.timerA = t.bi.timerA ∧
    (minOffAtOnce s t).bi.timerB = t.bi.timerB ∧ (minOffAtOnce s t).bi.identityCount = t.bi.identityCount ∧
    (minOffAtOnce s t).bi.pulse = t.bi.pulse ∧ (minOffAtOnce s t).bi.stats = t.bi.stats ∧
    (minOffAtOnce s t).ro = t.ro ∧ (minOffAtOnce s t).sup = t.sup ∧ (minOffAtOnce s t).sm = t.sm ∧
    (minOffAtOnce s t).lp.phase = t.lp.phase ∧ (minOffAtOnce s t).lp.result = t.lp.result ∧
    (minOffAtOnce s t).lp.sdo = t.lp.sdo ∧ (minOffAtOnce s t).lp.lostCommands = t.lp.lostCommands ∧
    (minOffAtOnce s t).lp.mask = t.lp.mask ∧ (minOffAtOnce s t).lp.fanCauses = t.lp.fanCauses ∧
    (minOffAtOnce s t).lp.busCauses = t.lp.busCauses ∧ (minOffAtOnce s t).lp.ejectCauses = t.lp.ejectCauses ∧
    (minOffAtOnce s t).lp.laneOutcome = t.lp.laneOutcome ∧ (minOffAtOnce s t).lp.laneSlot = t.lp.laneSlot ∧
    (minOffAtOnce s t).lp.mailQueue = t.lp.mailQueue ∧ (minOffAtOnce s t).lp.overflow = t.lp.overflow ∧
    (minOffAtOnce s t).lp.nextTag = t.lp.nextTag := by
  unfold minOffAtOnce
  split <;> simp

@[simp] theorem State.closing_frame (s : State) (c : Instr) (p : PortPath) :
    (s.closing c p).now = s.now ∧ (s.closing c p).pending = s.pending ∧ (s.closing c p).lc = s.lc ∧
    (s.closing c p).bi = s.bi ∧ (s.closing c p).ro = s.ro ∧ (s.closing c p).bu = s.bu ∧ (s.closing c p).ps = s.ps ∧
    (s.closing c p).sup = s.sup ∧ (s.closing c p).sm = s.sm ∧ (s.closing c p).fc = s.fc ∧
    (s.closing c p).lm = s.lm ∧ (s.closing c p).lb = s.lb ∧ (s.closing c p).lp.phase = s.lp.phase ∧
    (s.closing c p).lp.result = s.lp.result ∧ (s.closing c p).lp.lostCommands = s.lp.lostCommands ∧
    (s.closing c p).lp.latched = s.lp.latched ∧ (s.closing c p).lp.mask = s.lp.mask ∧
    (s.closing c p).lp.powerCause = s.lp.powerCause ∧ (s.closing c p).lp.shedCauses = s.lp.shedCauses ∧
    (s.closing c p).lp.raiseCauses = s.lp.raiseCauses ∧ (s.closing c p).lp.fanCauses = s.lp.fanCauses ∧
    (s.closing c p).lp.busCauses = s.lp.busCauses ∧ (s.closing c p).lp.ejectCauses = s.lp.ejectCauses ∧
    (s.closing c p).lp.laneOutcome = s.lp.laneOutcome ∧ (s.closing c p).lp.laneSlot = s.lp.laneSlot ∧
    (s.closing c p).lp.mailQueue = s.lp.mailQueue ∧ (s.closing c p).lp.overflow = s.lp.overflow ∧
    (s.closing c p).lp.box0 = s.lp.box0 ∧ (s.closing c p).lp.box1 = s.lp.box1 ∧
    (s.closing c p).lp.nextTag = s.lp.nextTag ∧ (s.closing c p).lp.lastFinal = s.lp.lastFinal ∧
    (s.closing c p).pins.seated = s.pins.seated ∧ (s.closing c p).pins.standby = s.pins.standby ∧
    (s.closing c p).pins.powerGood = s.pins.powerGood ∧ (s.closing c p).pins.handleOpen = s.pins.handleOpen ∧
    (s.closing c p).pins.straps = s.pins.straps ∧ (s.closing c p).pins.resetAsserted = s.pins.resetAsserted := by
  cases p <;> simp [State.closing, drivenHigh, released]

@[simp] theorem State.place_frame (s : State) (p : PortPath) (r : List Byte) :
    (s.place p r).now = s.now ∧ (s.place p r).pending = s.pending ∧ (s.place p r).pins = s.pins ∧
      (s.place p r).lc = s.lc ∧ (s.place p r).bi = s.bi ∧ (s.place p r).ro = s.ro ∧ (s.place p r).bu = s.bu ∧
      (s.place p r).ps = s.ps ∧ (s.place p r).sup = s.sup ∧ (s.place p r).sm = s.sm ∧ (s.place p r).fc = s.fc ∧
      (s.place p r).lm = s.lm ∧ (s.place p r).lb = s.lb ∧ (s.place p r).lp.latched = s.lp.latched ∧
      (s.place p r).lp.mask = s.lp.mask ∧ (s.place p r).lp.mailQueue = s.lp.mailQueue ∧
      (s.place p r).lp.overflow = s.lp.overflow ∧ (s.place p r).lp.box0 = s.lp.box0 ∧
      (s.place p r).lp.box1 = s.lp.box1 ∧ (s.place p r).lp.nextTag = s.lp.nextTag ∧
      (s.place p r).lp.lastFinal = s.lp.lastFinal ∧ (s.place p r).lp.sdo = s.lp.sdo := by
  cases p <;> simp [State.place]

/-- A command that is not taken changes nothing. -/
theorem portCommand_untaken {c : Instr} {k : PortClass} {roles : Role → Bool} {own : State → Option Status}
    {run : State → State × List Byte} {s : State} (h : s.portPath c = none) : portCommand c k roles own run s = s := by
  simp [portCommand, h]

/-- A command refused leaves its status and nothing else (R184, R185). -/
theorem portCommand_refused {c : Instr} {k : PortClass} {roles : Role → Bool} {own : State → Option Status}
    {run : State → State × List Byte} {s : State} {p : PortPath} {st : Status} (h : s.portPath c = some p)
    (hj : (s.closing c p).judge k roles own = some st) :
    portCommand c k roles own run s = finish ((s.closing c p).place p [st.code]) := by
  simp [portCommand, h, hj]

/-- A command run leaves its effect and its result (R183). -/
theorem portCommand_done {c : Instr} {k : PortClass} {roles : Role → Bool} {own : State → Option Status}
    {run : State → State × List Byte} {s : State} {p : PortPath} (h : s.portPath c = some p)
    (hj : (s.closing c p).judge k roles own = none) :
    portCommand c k roles own run s =
      finish ((run (s.closing c p)).1.place p (Status.done.code :: (run (s.closing c p)).2)) := by
  simp [portCommand, h, hj]

@[simp] theorem State.closing_gate (s : State) (c : Instr) (p : PortPath) (k : PortClass) : (s.closing c p).gate k = s.gate k := by
  simp [State.gate]

@[simp] theorem State.closing_roleIn (s : State) (c : Instr) (p : PortPath) (f : Role → Bool) :
    (s.closing c p).roleIn f = s.roleIn f := by
  simp [State.roleIn, State.role]

/-- A command that reaches its block does not come by the lost path. -/
theorem reaches_path {s : State} {c : Instr} (h : s.reaches c = true) :
    ∃ p, s.portPath c = some p ∧ p ≠ .lost := by
  simp only [State.reaches, Bool.and_eq_true, List.isEmpty_iff] at h
  obtain ⟨h1, h2⟩ := h
  cases hp : s.portPath c with
  | none => simp [hp] at h1
  | some p =>
    refine ⟨p, rfl, ?_⟩
    rintro rfl
    have hs : spells s.lp.lostCommands.head? c = false := by rw [h2]; rfl
    unfold State.portPath at hp
    simp only [hs, Bool.false_and] at hp
    revert hp
    (repeat' split) <;> intro hp <;> first | contradiction | cases hp

/-- The judgement of a command that passed gate and role is that of its own checks (R185). -/
theorem accepts_judge {s : State} {c : Instr} {k : PortClass} {roles : Role → Bool}
    (h : s.accepts c = true) (hg : commandGate c = some (k, roles)) :
    ∃ p, p ≠ .lost ∧ s.portPath c = some p ∧
      ∀ own, (s.closing c p).judge k roles own = own (s.closing c p) := by
  simp only [State.accepts, hg, Bool.and_eq_true] at h
  obtain ⟨p, hp, hl⟩ := reaches_path h.1
  exact ⟨p, hl, hp, fun own => by simp [State.judge, h.2.1, h.2.2]⟩

/-- Where a result goes that is not lost (R183). -/
theorem place_answered {s : State} {p : PortPath} (hl : p ≠ .lost) (r : List Byte) :
    (s.place p r).lp.result = some r ∧ (s.place p r).lp.phase = .idle := by
  cases p <;> simp_all [State.place]

end Sys2Proof.Machine
end

