-- ==== Sys2Proof/Laws/Records.lean ====
section
/-! SUPPORT. The lane records of a blade (R164): every operation keeps them in order and at most four. -/

namespace Sys2Proof.Machine

theorem recordsSound_iff (lb : SlotMap LaneRecord) :
    recordsSound lb = true ↔ slotWf lb = true ∧ lb.length ≤ Config.laneRecords := by
  simp [recordsSound]

@[simp] theorem recordsSound_nil : recordsSound [] = true := rfl

/-- Writing a record that is in use. -/
theorem recordsSound_set (lb : SlotMap LaneRecord) (n : Nat) (r : LaneRecord) (h : recordsSound lb = true)
    (h1 : (slotGet lb n).isSome = true) : recordsSound (slotSet lb n r) = true := by
  rw [recordsSound_iff] at *
  exact ⟨slotSet_wf _ _ _ h.1, by rw [slotSet_length_of_mem _ _ _ h.1 h1]; exact h.2⟩

theorem recordsSound_set_some (lb : SlotMap LaneRecord) (n : Nat) (r r0 : LaneRecord) (h : recordsSound lb = true)
    (h1 : slotGet lb n = some r0) : recordsSound (slotSet lb n r) = true :=
  recordsSound_set lb n r h (by simp [h1])

/-- Taking a record into use while one is free. -/
theorem recordsSound_new (lb : SlotMap LaneRecord) (n : Nat) (r : LaneRecord) (h : recordsSound lb = true)
    (h1 : lb.length < Config.laneRecords) : recordsSound (slotSet lb n r) = true := by
  rw [recordsSound_iff] at *
  exact ⟨slotSet_wf _ _ _ h.1, Nat.le_trans (slotSet_length_le lb n r) h1⟩

@[simp] theorem recordsSound_del (lb : SlotMap LaneRecord) (n : Nat) (h : recordsSound lb = true) :
    recordsSound (slotDel lb n) = true := by
  rw [recordsSound_iff] at *
  exact ⟨slotDel_wf _ _ h.1, Nat.le_trans (slotDel_length_le lb n) h.2⟩

/-- Keeping a record that is in use, or dropping it. -/
theorem recordsSound_keep (s : State) (n : Nat) (r : LaneRecord) (h : recordsSound s.lb = true)
    (h1 : (slotGet s.lb n).isSome = true) : recordsSound (s.keepRecord n r).lb = true := by
  rw [State.keepRecord_lb]
  split
  · exact recordsSound_del _ _ h
  · exact recordsSound_set _ _ _ h h1

theorem recordsSound_keep_some (s : State) (n : Nat) (r r0 : LaneRecord) (h : recordsSound s.lb = true)
    (h1 : slotGet s.lb n = some r0) : recordsSound (s.keepRecord n r).lb = true :=
  recordsSound_keep s n r h (by simp [h1])

/-- A record for the slot is in use or free (R165, R169). -/
theorem recordsSound_for (s : State) (n : Nat) (r : LaneRecord) (h : recordsSound s.lb = true)
    (h1 : s.recordFor n = true) : recordsSound (slotSet s.lb n r) = true := by
  simp only [State.recordFor, State.recordRoom, Bool.or_eq_true, decide_eq_true_eq] at h1
  rcases h1 with h1 | h1
  · exact recordsSound_set _ _ _ h h1
  · exact recordsSound_new _ _ _ h h1

/-! ## Every operation keeps the lane records sound -/

@[simp] theorem postBlade_records (k : LaneKind) (n : Nat) (s : State) (h0 : recordsSound s.lb = true) :
    recordsSound (postBlade k n s).lb = true := by
  unfold postBlade
  split
  · exact h0
  · next r e => (repeat' split) <;> simp [h0, recordsSound_set_some _ _ _ _ h0 e]

@[simp] theorem laneFreed_records (s : State) (h0 : recordsSound s.lb = true) :
    recordsSound (laneFreed s).lb = true := by
  unfold laneFreed
  split
  · split
    · exact h0
    · split <;> simp [h0]
  · split <;> simp [h0]

@[simp] theorem State.beginTx_records (s : State) (c : Choice) (p : List Byte) (h0 : recordsSound s.lb = true) :
    recordsSound (s.beginTx c p).lb = true := by
  generalize h : s.beginTx c p = t
  unfold State.beginTx at h
  try dsimp only at h
  (repeat' split at h) <;> subst h <;> simp (maxDischargeDepth := 12) [h0]

@[simp] theorem State.emptyChoice_records (s : State) (c : Choice) (h0 : recordsSound s.lb = true) :
    recordsSound (s.emptyChoice c).lb = true := by
  generalize h : s.emptyChoice c = t
  unfold State.emptyChoice at h
  try dsimp only at h
  (repeat' split at h) <;> subst h <;> simp (maxDischargeDepth := 12) [h0]

@[simp] theorem startLoop_records (n : Nat) (s : State) (h0 : recordsSound s.lb = true) :
    recordsSound (startLoop n s).lb = true := by
  induction n generalizing s with
  | zero => simp (maxDischargeDepth := 12) [startLoop, h0]
  | succ n ih => unfold startLoop; (repeat' split) <;> simp (maxDischargeDepth := 12) [ih, h0]

@[simp] theorem startFrame_records (s : State) (h0 : recordsSound s.lb = true) :
    recordsSound (startFrame s).lb = true := by
  generalize h : startFrame s = t
  unfold startFrame at h
  try dsimp only at h
  (repeat' split at h) <;> subst h <;> simp (maxDischargeDepth := 12) [h0]

@[simp] theorem laneSent_records (e : LaneEntry) (s : State) (h0 : recordsSound s.lb = true) :
    recordsSound (laneSent e s).lb = true := by
  unfold laneSent
  dsimp only
  split
  · (repeat' split) <;> simp [h0]
  · simp [h0]
  · split
    · simp [h0]
    · next r e => exact laneFreed_records _ (recordsSound_keep_some _ _ _ _ h0 e)

@[simp] theorem endLane_records (e : Ending) (d : Bool) (s : State) (h0 : recordsSound s.lb = true) :
    recordsSound (endLane e d s).lb = true := by
  generalize h : endLane e d s = t
  unfold endLane at h
  try dsimp only at h
  (repeat' split at h) <;> subst h <;> simp (maxDischargeDepth := 12) [h0]

@[simp] theorem endTx_records (t : Tx) (e : Ending) (s : State) (h0 : recordsSound s.lb = true) :
    recordsSound (endTx t e s).lb = true := by
  generalize h : endTx t e s = t
  unfold endTx at h
  try dsimp only at h
  (repeat' split at h) <;> subst h <;> simp (maxDischargeDepth := 12) [h0]

@[simp] theorem releaseRecord_records (n : Nat) (s : State) (h0 : recordsSound s.lb = true) :
    recordsSound (releaseRecord n s).lb = true := by
  unfold releaseRecord
  split
  · exact h0
  · next r e => exact postBlade_records _ _ _ (recordsSound_set_some _ _ _ _ h0 e)

@[simp] theorem releaseRecords_records (us : List Nat) (s : State) (h0 : recordsSound s.lb = true) :
    recordsSound (releaseRecords us s).lb = true := by
  induction us generalizing s with
  | nil => simp (maxDischargeDepth := 12) [releaseRecords, h0]
  | cons u us ih => simp (maxDischargeDepth := 12) [releaseRecords, ih, h0]

@[simp] theorem leavingOn_records (r : LaneReason) (s : State) (h0 : recordsSound s.lb = true) :
    recordsSound (leavingOn r s).lb = true := by
  generalize h : leavingOn r s = t
  unfold leavingOn at h
  try dsimp only at h
  (repeat' split at h) <;> subst h <;> simp (maxDischargeDepth := 12) [h0]

@[simp] theorem faultPath_records (r : OffReason) (c : PowerCause) (s : State) (h0 : recordsSound s.lb = true) :
    recordsSound (faultPath r c s).lb = true := by
  generalize h : faultPath r c s = t
  unfold faultPath at h
  try dsimp only at h
  (repeat' split at h) <;> subst h <;> simp (maxDischargeDepth := 12) [h0]

@[simp] theorem powerOffPath_records (s : State) (h0 : recordsSound s.lb = true) :
    recordsSound (powerOffPath s).lb = true := by
  generalize h : powerOffPath s = t
  unfold powerOffPath at h
  try dsimp only at h
  (repeat' split at h) <;> subst h <;> simp (maxDischargeDepth := 12) [h0]

@[simp] theorem forcedOff_records (c : ShedCause) (s : State) (h0 : recordsSound s.lb = true) :
    recordsSound (forcedOff c s).lb = true := by
  generalize h : forcedOff c s = t
  unfold forcedOff at h
  try dsimp only at h
  (repeat' split at h) <;> subst h <;> simp (maxDischargeDepth := 12) [h0]

@[simp] theorem stoppingFall_records (c : ShedCause) (s : State) (h0 : recordsSound s.lb = true) :
    recordsSound (stoppingFall c s).lb = true := by
  generalize h : stoppingFall c s = t
  unfold stoppingFall at h
  try dsimp only at h
  (repeat' split at h) <;> subst h <;> simp (maxDischargeDepth := 12) [h0]

@[simp] theorem dropToFloor_records (c : ShedCause) (s : State) (h0 : recordsSound s.lb = true) :
    recordsSound (dropToFloor c s).lb = true := by
  generalize h : dropToFloor c s = t
  unfold dropToFloor at h
  try dsimp only at h
  (repeat' split at h) <;> subst h <;> simp (maxDischargeDepth := 12) [h0]

@[simp] theorem lossAtRest_records (s : State) (h0 : recordsSound s.lb = true) :
    recordsSound (lossAtRest s).lb = true := by
  generalize h : lossAtRest s = t
  unfold lossAtRest at h
  try dsimp only at h
  (repeat' split at h) <;> subst h <;> simp (maxDischargeDepth := 12) [h0]

@[simp] theorem endLevelRaise_records (c d : ShedCause) (b : Bool) (s : State) (h0 : recordsSound s.lb = true) :
    recordsSound (endLevelRaise c d b s).lb = true := by
  generalize h : endLevelRaise c d b s = t
  unfold endLevelRaise at h
  try dsimp only at h
  (repeat' split at h) <;> subst h <;> simp (maxDischargeDepth := 12) [h0]

@[simp] theorem failAmountRaise_records (s : State) (h0 : recordsSound s.lb = true) :
    recordsSound (failAmountRaise s).lb = true := by
  generalize h : failAmountRaise s = t
  unfold failAmountRaise at h
  try dsimp only at h
  (repeat' split at h) <;> subst h <;> simp (maxDischargeDepth := 12) [h0]

@[simp] theorem lookRaise_records (s : State) (h0 : recordsSound s.lb = true) :
    recordsSound (lookRaise s).lb = true := by
  generalize h : lookRaise s = t
  unfold lookRaise at h
  try dsimp only at h
  (repeat' split at h) <;> subst h <;> simp (maxDischargeDepth := 12) [h0]

@[simp] theorem shedAct_records (c : ShedCause) (s : State) (h0 : recordsSound s.lb = true) :
    recordsSound (shedAct c s).lb = true := by
  generalize h : shedAct c s = t
  unfold shedAct at h
  try dsimp only at h
  (repeat' split at h) <;> subst h <;> simp (maxDischargeDepth := 12) [h0]

@[simp] theorem stalePath_records (s : State) (h0 : recordsSound s.lb = true) :
    recordsSound (stalePath s).lb = true := by
  generalize h : stalePath s = t
  unfold stalePath at h
  try dsimp only at h
  (repeat' split at h) <;> subst h <;> simp (maxDischargeDepth := 12) [h0]

@[simp] theorem staleCleared_records (s : State) (h0 : recordsSound s.lb = true) :
    recordsSound (staleCleared s).lb = true := by
  generalize h : staleCleared s = t
  unfold staleCleared at h
  try dsimp only at h
  (repeat' split at h) <;> subst h <;> simp (maxDischargeDepth := 12) [h0]

@[simp] theorem rewriteLanes_records (s : State) (h0 : recordsSound s.lb = true) :
    recordsSound (rewriteLanes s).lb = true := by
  generalize h : rewriteLanes s = t
  unfold rewriteLanes at h
  try dsimp only at h
  (repeat' split at h) <;> subst h <;> simp (maxDischargeDepth := 12) [h0]

@[simp] theorem serve_records (r : Request) (q : List Request) (s : State) (h0 : recordsSound s.lb = true) :
    recordsSound (serve r q s).lb = true := by
  generalize h : serve r q s = t
  unfold serve at h
  try dsimp only at h
  (repeat' split at h) <;> subst h <;> simp (maxDischargeDepth := 12) [h0]

@[simp] theorem reservationFails_records (s : State) (h0 : recordsSound s.lb = true) :
    recordsSound (reservationFails s).lb = true := by
  generalize h : reservationFails s = t
  unfold reservationFails at h
  try dsimp only at h
  (repeat' split at h) <;> subst h <;> simp (maxDischargeDepth := 12) [h0]

@[simp] theorem arbiterLoop_records (n : Nat) (s : State) (h0 : recordsSound s.lb = true) :
    recordsSound (arbiterLoop n s).lb = true := by
  induction n generalizing s with
  | zero => simp (maxDischargeDepth := 12) [arbiterLoop, h0]
  | succ n ih => unfold arbiterLoop; dsimp only; (repeat' split) <;> simp (maxDischargeDepth := 12) [ih, h0]

@[simp] theorem arbiter_records (s : State) (h0 : recordsSound s.lb = true) :
    recordsSound (arbiter s).lb = true := by
  generalize h : arbiter s = t
  unfold arbiter at h
  try dsimp only at h
  (repeat' split at h) <;> subst h <;> simp (maxDischargeDepth := 12) [h0]

@[simp] theorem roundLoop_records (n : Nat) (s : State) (h0 : recordsSound s.lb = true) :
    recordsSound (roundLoop n s).lb = true := by
  induction n generalizing s with
  | zero => simp (maxDischargeDepth := 12) [roundLoop, h0]
  | succ n ih => unfold roundLoop; dsimp only; (repeat' split) <;> simp (maxDischargeDepth := 12) [ih, h0]

@[simp] theorem arbiterRound_records (s : State) (h0 : recordsSound s.lb = true) :
    recordsSound (arbiterRound s).lb = true := by
  generalize h : arbiterRound s = t
  unfold arbiterRound at h
  try dsimp only at h
  (repeat' split at h) <;> subst h <;> simp (maxDischargeDepth := 12) [h0]

@[simp] theorem reservationEnds_records (s : State) (h0 : recordsSound s.lb = true) :
    recordsSound (reservationEnds s).lb = true := by
  generalize h : reservationEnds s = t
  unfold reservationEnds at h
  try dsimp only at h
  (repeat' split at h) <;> subst h <;> simp (maxDischargeDepth := 12) [h0]

@[simp] theorem enterOn_records (s : State) (h0 : recordsSound s.lb = true) :
    recordsSound (enterOn s).lb = true := by
  generalize h : enterOn s = t
  unfold enterOn at h
  try dsimp only at h
  (repeat' split at h) <;> subst h <;> simp (maxDischargeDepth := 12) [h0]

@[simp] theorem enterEnabling_records (s : State) (h0 : recordsSound s.lb = true) :
    recordsSound (enterEnabling s).lb = true := by
  generalize h : enterEnabling s = t
  unfold enterEnabling at h
  try dsimp only at h
  (repeat' split at h) <;> subst h <;> simp (maxDischargeDepth := 12) [h0]

@[simp] theorem psLoss_records (s : State) (h0 : recordsSound s.lb = true) :
    recordsSound (psLoss s).lb = true := by
  generalize h : psLoss s = t
  unfold psLoss at h
  try dsimp only at h
  (repeat' split at h) <;> subst h <;> simp (maxDischargeDepth := 12) [h0]

@[simp] theorem psAdmitted_records (s : State) (h0 : recordsSound s.lb = true) :
    recordsSound (psAdmitted s).lb = true := by
  generalize h : psAdmitted s = t
  unfold psAdmitted at h
  try dsimp only at h
  (repeat' split at h) <;> subst h <;> simp (maxDischargeDepth := 12) [h0]

@[simp] theorem noticed_records (f : State → State) (s : State) (h0 : recordsSound (f s).lb = true) :
    recordsSound (noticed f s).lb = true := by
  generalize h : noticed f s = t
  unfold noticed at h
  try dsimp only at h
  (repeat' split at h) <;> subst h <;> simp (maxDischargeDepth := 12) [h0]

@[simp] theorem takeRelease_records (n : Nat) (s : State) (h0 : recordsSound s.lb = true) :
    recordsSound (takeRelease n s).lb = true := by
  generalize h : takeRelease n s = t
  unfold takeRelease at h
  try dsimp only at h
  (repeat' split at h) <;> subst h <;> simp (maxDischargeDepth := 12) [h0]

@[simp] theorem takeRequest_records (n m : Nat) (e : RosterEntry) (s : State) (h0 : recordsSound s.lb = true) :
    recordsSound (takeRequest n m e s).lb = true := by
  generalize h : takeRequest n m e s = t
  unfold takeRequest at h
  try dsimp only at h
  (repeat' split at h) <;> subst h <;> simp (maxDischargeDepth := 12) [h0]

@[simp] theorem lanesRemoved_records (n : Nat) (s : State) (h0 : recordsSound s.lb = true) :
    recordsSound (lanesRemoved n s).lb = true := by
  generalize h : lanesRemoved n s = t
  unfold lanesRemoved at h
  try dsimp only at h
  (repeat' split at h) <;> subst h <;> simp (maxDischargeDepth := 12) [h0]

@[simp] theorem lanesUnpowered_records (n : Nat) (s : State) (h0 : recordsSound s.lb = true) :
    recordsSound (lanesUnpowered n s).lb = true := by
  generalize h : lanesUnpowered n s = t
  unfold lanesUnpowered at h
  try dsimp only at h
  (repeat' split at h) <;> subst h <;> simp (maxDischargeDepth := 12) [h0]

@[simp] theorem laneFaultOn_records (n : Nat) (s : State) (h0 : recordsSound s.lb = true) :
    recordsSound (laneFaultOn n s).lb = true := by
  generalize h : laneFaultOn n s = t
  unfold laneFaultOn at h
  try dsimp only at h
  (repeat' split at h) <;> subst h <;> simp (maxDischargeDepth := 12) [h0]

@[simp] theorem laneFaultOff_records (n : Nat) (s : State) (h0 : recordsSound s.lb = true) :
    recordsSound (laneFaultOff n s).lb = true := by
  generalize h : laneFaultOff n s = t
  unfold laneFaultOff at h
  try dsimp only at h
  (repeat' split at h) <;> subst h <;> simp (maxDischargeDepth := 12) [h0]

@[simp] theorem thermalReports_records (a b : TChannel) (h : Bool) (s : State) (h0 : recordsSound s.lb = true) :
    recordsSound (thermalReports a b h s).lb = true := by
  generalize h : thermalReports a b h s = t
  unfold thermalReports at h
  try dsimp only at h
  (repeat' split at h) <;> subst h <;> simp (maxDischargeDepth := 12) [h0]

@[simp] theorem convertT_records (k : Nat) (d : Option Int) (s : State) (h0 : recordsSound s.lb = true) :
    recordsSound (convertT k d s).lb = true := by
  generalize h : convertT k d s = t
  unfold convertT at h
  try dsimp only at h
  (repeat' split at h) <;> subst h <;> simp (maxDischargeDepth := 12) [h0]

@[simp] theorem convert_records (d : Option Int) (v : Int) (s : State) (h0 : recordsSound s.lb = true) :
    recordsSound (convert d v s).lb = true := by
  generalize h : convert d v s = t
  unfold convert at h
  try dsimp only at h
  (repeat' split at h) <;> subst h <;> simp (maxDischargeDepth := 12) [h0]

@[simp] theorem askLanes_records (n m : Nat) (s : State) (h0 : recordsSound s.lb = true) (h1 : s.recordFor n = true) :
    recordsSound (askLanes n m s).lb = true := by
  unfold askLanes
  exact postBlade_records _ _ _ (recordsSound_for s n _ h0 h1)

@[simp] theorem giveLanes_records (n : Nat) (s : State) (h0 : recordsSound s.lb = true) (h1 : s.recordFor n = true) :
    recordsSound (giveLanes n s).lb = true := by
  unfold giveLanes
  split
  · simp [h0]
  · exact releaseRecord_records _ _ (recordsSound_for s n _ h0 h1)

@[simp] theorem lateGrant_records (n : Nat) (s : State) (h0 : recordsSound s.lb = true) :
    recordsSound (lateGrant n s).lb = true := by
  unfold lateGrant
  dsimp only
  split
  · next r e => simp [recordsSound_set_some _ _ _ _ h0 e]
  · split
    · next h1 => simp [recordsSound_new s.lb n _ h0 (by simpa [State.recordRoom] using h1)]
    · simp [h0]

@[simp] theorem closeRequest_records (n : Nat) (r : LaneRecord) (a : Answer) (h : Half) (s : State) (h0 : recordsSound s.lb = true) (h1 : (slotGet s.lb n).isSome = true) :
    recordsSound (closeRequest n r a h s).lb = true := by
  unfold closeRequest
  rw [(State.latchLane_frame _ _ _).2.2.2.2.2.2.2.2.2.2.2.2.1]
  exact recordsSound_keep s n _ h0 h1

@[simp] theorem takeGrant_records (n : Nat) (a : Answer) (h : Half) (s : State) (h0 : recordsSound s.lb = true) :
    recordsSound (takeGrant n a h s).lb = true := by
  unfold takeGrant
  split
  · split <;> simp [h0]
  · next r e =>
    (repeat' split) <;>
      first
      | exact closeRequest_records _ _ _ _ _ h0 (by simp [e])
      | exact lateGrant_records _ _ h0
      | exact recordsSound_keep_some _ _ _ _ h0 e

@[simp] theorem repostRequests_records (us : List Nat) (s : State) (h0 : recordsSound s.lb = true) :
    recordsSound (repostRequests us s).lb = true := by
  induction us generalizing s with
  | nil => simp (maxDischargeDepth := 12) [repostRequests, h0]
  | cons u us ih => unfold repostRequests; (repeat' split) <;> simp (maxDischargeDepth := 12) [ih, h0]

@[simp] theorem replyTimeout_records (n : Nat) (s : State) (h0 : recordsSound s.lb = true) :
    recordsSound (replyTimeout n s).lb = true := by
  unfold replyTimeout
  split
  · exact h0
  · next r e =>
    split
    · rw [(State.latchLane_frame _ _ _).2.2.2.2.2.2.2.2.2.2.2.2.1]
      exact recordsSound_keep_some _ _ _ _ h0 e
    · exact recordsSound_set_some s.lb n _ r h0 e

@[simp] theorem budgetRemoved_records (n : Nat) (s : State) (h0 : recordsSound s.lb = true) :
    recordsSound (budgetRemoved n s).lb = true := by
  generalize h : budgetRemoved n s = t
  unfold budgetRemoved at h
  try dsimp only at h
  (repeat' split at h) <;> subst h <;> simp (maxDischargeDepth := 12) [h0]

@[simp] theorem lanesReported_records (n : Nat) (s : State) (h0 : recordsSound s.lb = true) :
    recordsSound (lanesReported n s).lb = true := by
  generalize h : lanesReported n s = t
  unfold lanesReported at h
  try dsimp only at h
  (repeat' split at h) <;> subst h <;> simp (maxDischargeDepth := 12) [h0]

@[simp] theorem removalReport_records (n : Nat) (s : State) (h0 : recordsSound s.lb = true) :
    recordsSound (removalReport n s).lb = true := by
  generalize h : removalReport n s = t
  unfold removalReport at h
  try dsimp only at h
  (repeat' split at h) <;> subst h <;> simp (maxDischargeDepth := 12) [h0]

@[simp] theorem removeEntry_records (k : ChangeKind) (n : Nat) (e : RosterEntry) (s : State) (h0 : recordsSound s.lb = true) :
    recordsSound (removeEntry k n e s).lb = true := by
  generalize h : removeEntry k n e s = t
  unfold removeEntry at h
  try dsimp only at h
  (repeat' split at h) <;> subst h <;> simp (maxDischargeDepth := 12) [h0]

@[simp] theorem budgetPresent_records (n : Nat) (e : RosterEntry) (s : State) (h0 : recordsSound s.lb = true) :
    recordsSound (budgetPresent n e s).lb = true := by
  generalize h : budgetPresent n e s = t
  unfold budgetPresent at h
  try dsimp only at h
  (repeat' split at h) <;> subst h <;> simp (maxDischargeDepth := 12) [h0]

@[simp] theorem insertEntry_records (n : Nat) (e : RosterEntry) (s : State) (h0 : recordsSound s.lb = true) :
    recordsSound (insertEntry n e s).lb = true := by
  generalize h : insertEntry n e s = t
  unfold insertEntry at h
  try dsimp only at h
  (repeat' split at h) <;> subst h <;> simp (maxDischargeDepth := 12) [h0]

@[simp] theorem swapEntry_records (n : Nat) (e : RosterEntry) (s : State) (h0 : recordsSound s.lb = true) :
    recordsSound (swapEntry n e s).lb = true := by
  generalize h : swapEntry n e s = t
  unfold swapEntry at h
  try dsimp only at h
  (repeat' split at h) <;> subst h <;> simp (maxDischargeDepth := 12) [h0]

@[simp] theorem budgetAnnounced_records (n : Nat) (e e' : RosterEntry) (s : State) (h0 : recordsSound s.lb = true) :
    recordsSound (budgetAnnounced n e e' s).lb = true := by
  generalize h : budgetAnnounced n e e' s = t
  unfold budgetAnnounced at h
  try dsimp only at h
  (repeat' split at h) <;> subst h <;> simp (maxDischargeDepth := 12) [h0]

@[simp] theorem announceEntry_records (n : Nat) (e : RosterEntry) (a : Announcement) (s : State) (h0 : recordsSound s.lb = true) :
    recordsSound (announceEntry n e a s).lb = true := by
  generalize h : announceEntry n e a s = t
  unfold announceEntry at h
  try dsimp only at h
  (repeat' split at h) <;> subst h <;> simp (maxDischargeDepth := 12) [h0]

@[simp] theorem takeAnnounce_records (n : Nat) (a : Announcement) (s : State) (h0 : recordsSound s.lb = true) :
    recordsSound (takeAnnounce n a s).lb = true := by
  generalize h : takeAnnounce n a s = t
  unfold takeAnnounce at h
  try dsimp only at h
  (repeat' split at h) <;> subst h <;> simp (maxDischargeDepth := 12) [h0]

@[simp] theorem takeJoin_records (n : Nat) (r : Role) (i : Identity) (s : State) (h0 : recordsSound s.lb = true) :
    recordsSound (takeJoin n r i s).lb = true := by
  generalize h : takeJoin n r i s = t
  unfold takeJoin at h
  try dsimp only at h
  (repeat' split at h) <;> subst h <;> simp (maxDischargeDepth := 12) [h0]

@[simp] theorem takeClaim_records (n : Nat) (e : RosterEntry) (p : ClaimPart) (s : State) (h0 : recordsSound s.lb = true) :
    recordsSound (takeClaim n e p s).lb = true := by
  generalize h : takeClaim n e p s = t
  unfold takeClaim at h
  try dsimp only at h
  (repeat' split at h) <;> subst h <;> simp (maxDischargeDepth := 12) [h0]

@[simp] theorem takeReleaseFrame_records (n : Nat) (e : RosterEntry) (s : State) (h0 : recordsSound s.lb = true) :
    recordsSound (takeReleaseFrame n e s).lb = true := by
  generalize h : takeReleaseFrame n e s = t
  unfold takeReleaseFrame at h
  try dsimp only at h
  (repeat' split at h) <;> subst h <;> simp (maxDischargeDepth := 12) [h0]

@[simp] theorem takeCapacity_records (n : Nat) (e : RosterEntry) (p : SupplyPart) (s : State) (h0 : recordsSound s.lb = true) :
    recordsSound (takeCapacity n e p s).lb = true := by
  generalize h : takeCapacity n e p s = t
  unfold takeCapacity at h
  try dsimp only at h
  (repeat' split at h) <;> subst h <;> simp (maxDischargeDepth := 12) [h0]

@[simp] theorem takeFanstat_records (n : Nat) (e : RosterEntry) (p : FanPart) (s : State) (h0 : recordsSound s.lb = true) :
    recordsSound (takeFanstat n e p s).lb = true := by
  generalize h : takeFanstat n e p s = t
  unfold takeFanstat at h
  try dsimp only at h
  (repeat' split at h) <;> subst h <;> simp (maxDischargeDepth := 12) [h0]

@[simp] theorem grantFrame_records (n : Nat) (e : RosterEntry) (p : List Byte) (s : State) (h0 : recordsSound s.lb = true) :
    recordsSound (grantFrame n e p s).lb = true := by
  generalize h : grantFrame n e p s = t
  unfold grantFrame at h
  try dsimp only at h
  (repeat' split at h) <;> subst h <;> simp (maxDischargeDepth := 12) [h0]

@[simp] theorem requestFrame_records (n : Nat) (e : RosterEntry) (p : List Byte) (s : State) (h0 : recordsSound s.lb = true) :
    recordsSound (requestFrame n e p s).lb = true := by
  generalize h : requestFrame n e p s = t
  unfold requestFrame at h
  try dsimp only at h
  (repeat' split at h) <;> subst h <;> simp (maxDischargeDepth := 12) [h0]

@[simp] theorem releaseFrame_records (n : Nat) (e : RosterEntry) (p : List Byte) (s : State) (h0 : recordsSound s.lb = true) :
    recordsSound (releaseFrame n e p s).lb = true := by
  generalize h : releaseFrame n e p s = t
  unfold releaseFrame at h
  try dsimp only at h
  (repeat' split at h) <;> subst h <;> simp (maxDischargeDepth := 12) [h0]

@[simp] theorem deliverKnown_records (k n : Nat) (e : RosterEntry) (p : List Byte) (s : State) (h0 : recordsSound s.lb = true) :
    recordsSound (deliverKnown k n e p s).lb = true := by
  generalize h : deliverKnown k n e p s = t
  unfold deliverKnown at h
  try dsimp only at h
  (repeat' split at h) <;> subst h <;> simp (maxDischargeDepth := 12) [h0]

@[simp] theorem deliverUnknown_records (k n : Nat) (p : List Byte) (s : State) (h0 : recordsSound s.lb = true) :
    recordsSound (deliverUnknown k n p s).lb = true := by
  generalize h : deliverUnknown k n p s = t
  unfold deliverUnknown at h
  try dsimp only at h
  (repeat' split at h) <;> subst h <;> simp (maxDischargeDepth := 12) [h0]

@[simp] theorem deliver_records (k n : Nat) (p : List Byte) (s : State) (h0 : recordsSound s.lb = true) :
    recordsSound (deliver k n p s).lb = true := by
  generalize h : deliver k n p s = t
  unfold deliver at h
  try dsimp only at h
  (repeat' split at h) <;> subst h <;> simp (maxDischargeDepth := 12) [h0]

@[simp] theorem endGrace_records (s : State) (h0 : recordsSound s.lb = true) :
    recordsSound (endGrace s).lb = true := by
  generalize h : endGrace s = t
  unfold endGrace at h
  try dsimp only at h
  (repeat' split at h) <;> subst h <;> simp (maxDischargeDepth := 12) [h0]

@[simp] theorem finish_records (s : State) (h0 : recordsSound s.lb = true) :
    recordsSound (finish s).lb = true := by
  generalize h : finish s = t
  unfold finish at h
  try dsimp only at h
  (repeat' split at h) <;> subst h <;> simp (maxDischargeDepth := 12) [h0]

@[simp] theorem minOffAtOnce_records (s t : State) (h0 : recordsSound t.lb = true) :
    recordsSound (minOffAtOnce s t).lb = true := by
  unfold minOffAtOnce
  split <;> simp [h0]

@[simp] theorem consumerOpens_records (s : State) (h0 : recordsSound s.lb = true) :
    recordsSound (consumerOpens s).lb = true := by
  generalize h : consumerOpens s = t
  unfold consumerOpens at h
  try dsimp only at h
  (repeat' split at h) <;> subst h <;> simp (maxDischargeDepth := 12) [h0]

@[simp] theorem handleOpens_records (s : State) (h0 : recordsSound s.lb = true) :
    recordsSound (handleOpens s).lb = true := by
  generalize h : handleOpens s = t
  unfold handleOpens at h
  try dsimp only at h
  (repeat' split at h) <;> subst h <;> simp (maxDischargeDepth := 12) [h0]

@[simp] theorem repostReleases_records (us : List Nat) (s : State) (h0 : recordsSound s.lb = true) :
    recordsSound (repostReleases us s).lb = true := by
  induction us generalizing s with
  | nil => simp (maxDischargeDepth := 12) [repostReleases, h0]
  | cons u us ih => unfold repostReleases; (repeat' split) <;> simp (maxDischargeDepth := 12) [ih, h0]

@[simp] theorem rejoin_records (s : State) (h0 : recordsSound s.lb = true) :
    recordsSound (rejoin s).lb = true := by
  generalize h : rejoin s = t
  unfold rejoin at h
  try dsimp only at h
  (repeat' split at h) <;> subst h <;> simp (maxDischargeDepth := 12) [h0]

@[simp] theorem unseatedPath_records (s : State) (h0 : recordsSound s.lb = true) :
    recordsSound (unseatedPath s).lb = true := by
  generalize h : unseatedPath s = t
  unfold unseatedPath at h
  try dsimp only at h
  (repeat' split at h) <;> subst h <;> simp (maxDischargeDepth := 12) [h0]

end Sys2Proof.Machine
end

