-- ==== Sys2Proof/Laws/Clock.lean ====
section
/-! SUPPORT. What every shared operation leaves of the reference clock and of the waiting commands. -/

namespace Sys2Proof.Machine

@[simp] theorem powerOn_clock (s : State) :
    s.powerOn.now = s.now ∧ s.powerOn.pending = s.pending ∧ s.powerOn.pins = s.pins := by
  simp [State.powerOn]

@[simp] theorem enterStart_clock (b) (s : State) :
    (s.enterStart b).now = s.now ∧ (s.enterStart b).pending = s.pending ∧ (s.enterStart b).pins = s.pins := by
  simp [State.enterStart]

/-- The moment a timer ends is never before the clock. -/
theorem reach_now (s : State) (t : Timer) : s.now ≤ (s.reach t).now := by
  cases t with
  | running d => exact Nat.le_max_left _ _
  | stopped n => exact Nat.le_refl _

@[simp] theorem restartNow_clock (s : State) : (restartNow s).now = s.now ∧ (restartNow s).pending = s.pending := by
  simp [restartNow]

@[simp] theorem endUnseatedWait_clock (s : State) :
    (endUnseatedWait s).now = s.now ∧ (endUnseatedWait s).pending = s.pending := by
  unfold endUnseatedWait; split <;> simp

@[simp] theorem endWait_clock (s : State) : (endWait s).now = s.now ∧ (endWait s).pending = s.pending := by
  unfold endWait; split <;> simp

@[simp] theorem surprise_clock (s : State) : (surprise s).now = s.now ∧ (surprise s).pending = s.pending := by
  unfold surprise; dsimp only; split <;> simp

@[simp] theorem seatedLoss_clock (s : State) : (seatedLoss s).now = s.now ∧ (seatedLoss s).pending = s.pending := by
  unfold seatedLoss; dsimp only; (repeat' split) <;> simp

@[simp] theorem enterClash_clock (s : State) : (enterClash s).now = s.now ∧ (enterClash s).pending = s.pending := by
  unfold enterClash; dsimp only; split <;> simp

@[simp] theorem clash_clock (s : State) : (clash s).now = s.now ∧ (clash s).pending = s.pending := by
  unfold clash; (repeat' split) <;> simp

@[simp] theorem receiveFrame_clock (k n : Nat) (p : List Byte) (s : State) :
    (receiveFrame k n p s).now = s.now ∧ (receiveFrame k n p s).pending = s.pending := by
  generalize h : receiveFrame k n p s = t
  unfold receiveFrame at h
  dsimp only at h
  (repeat' split at h) <;> subst h <;> simp [lengthError]

@[simp] theorem sayGoodbye_clock (s : State) :
    (sayGoodbye s).now = s.now ∧ (sayGoodbye s).pending = s.pending := by
  unfold sayGoodbye; dsimp only; (repeat' split) <;> simp

@[simp] theorem beginRestart_clock (s : State) :
    (beginRestart s).now = s.now ∧ (beginRestart s).pending = s.pending := by
  simp [beginRestart]

@[simp] theorem handleCloses_clock (s : State) :
    (handleCloses s).now = s.now ∧ (handleCloses s).pending = s.pending := by
  unfold handleCloses; (repeat' split) <;> simp

/-- The debounce of HANDLE ends: the clock stands at its end. -/
theorem debounced_clock (h) (s : State) : s.now ≤ (debounced h s).now ∧ (debounced h s).pending = s.pending := by
  unfold debounced; simp [reach_now]

@[simp] theorem goMute_clock (s : State) : (goMute s).now = s.now ∧ (goMute s).pending = s.pending := by
  simp [goMute]

@[simp] theorem giveUpLeave_clock (s : State) :
    (giveUpLeave s).now = s.now ∧ (giveUpLeave s).pending = s.pending := by
  unfold giveUpLeave; dsimp only; split <;> simp

@[simp] theorem afterBitError_clock (t) (s : State) :
    (afterBitError t s).now = s.now ∧ (afterBitError t s).pending = s.pending := by
  unfold afterBitError; (repeat' split) <;> simp

@[simp] theorem classEnding_clock (s : State) :
    (classEnding s).now = s.now ∧ (classEnding s).pending = s.pending := by
  unfold classEnding; (repeat' split) <;> simp

@[simp] theorem leaveSent_clock (s : State) : (leaveSent s).now = s.now ∧ (leaveSent s).pending = s.pending := by
  unfold leaveSent; (repeat' split) <;> simp

@[simp] theorem heardOurselves_clock (s : State) :
    (heardOurselves s).now = s.now ∧ (heardOurselves s).pending = s.pending := by
  unfold heardOurselves; dsimp only; (repeat' split) <;> simp

@[simp] theorem restartPhase_clock (p) (s : State) :
    (restartPhase p s).now = s.now ∧ (restartPhase p s).pending = s.pending := by
  cases p <;> simp [restartPhase]

@[simp] theorem aloneStarts_clock (s : State) :
    (aloneStarts s).now = s.now ∧ (aloneStarts s).pending = s.pending := by
  unfold aloneStarts; split <;> simp

/-- A command of the port keeps the clock where what it runs keeps it. -/
theorem portCommand_clock (c k roles own) (run : State → State × List Byte) (s : State)
    (h : ∀ x, (run x).1.now = x.now ∧ (run x).1.pending = x.pending) :
    (portCommand c k roles own run s).now = s.now ∧ (portCommand c k roles own run s).pending = s.pending := by
  unfold portCommand
  dsimp only
  (repeat' split) <;> simp [h]

end Sys2Proof.Machine
end

