-- ==== Sys2Proof/Laws/Latched.lean ====
section
/-! SUPPORT. Events only become latched: every operation but SENSE, a clear, local reset and START leaves a latched event latched (R186). -/

namespace Sys2Proof.Machine

/-- Latching an event leaves every latched event latched. -/
@[simp] theorem State.latchWith_event (s : State) (e : Event) (f : LocalPort → LocalPort)
    (j : Nat) (h0 : s.lp.latched.getLsbD j = true) : (s.latchWith e f).lp.latched.getLsbD j = true := by
  unfold State.latchWith
  split <;> simp [h0]

/-- A latched event is latched, unless RESET_N is asserted (R194). -/
theorem State.latchWith_has (s : State) (e : Event) (f : LocalPort → LocalPort) (h : s.pins.resetAsserted = false) :
    (s.latchWith e f).hasEvent e = true := by
  simp only [State.latchWith, State.hasEvent, h]
  cases e <;> simp [Event.bit, Event.word]

@[simp] theorem State.latch_event (s : State) (e : Event) (j : Nat) (h0 : s.lp.latched.getLsbD j = true) :
    (s.latch e).lp.latched.getLsbD j = true := State.latchWith_event s e id j h0

@[simp] theorem State.latchPower_event (s : State) (c : PowerCause) (j : Nat) (h0 : s.lp.latched.getLsbD j = true) :
    (s.latchPower c).lp.latched.getLsbD j = true := by
  generalize h : s.latchPower c = t
  unfold State.latchPower at h
  try dsimp only at h
  (repeat' split at h) <;> subst h <;> simp (maxDischargeDepth := 12) [h0]

@[simp] theorem State.latchShed_event (s : State) (c : ShedCause) (j : Nat) (h0 : s.lp.latched.getLsbD j = true) :
    (s.latchShed c).lp.latched.getLsbD j = true := by
  generalize h : s.latchShed c = t
  unfold State.latchShed at h
  try dsimp only at h
  (repeat' split at h) <;> subst h <;> simp (maxDischargeDepth := 12) [h0]

@[simp] theorem State.latchRaiseDenied_event (s : State) (b : Bool) (j : Nat) (h0 : s.lp.latched.getLsbD j = true) :
    (s.latchRaiseDenied b).lp.latched.getLsbD j = true := by
  generalize h : s.latchRaiseDenied b = t
  unfold State.latchRaiseDenied at h
  try dsimp only at h
  (repeat' split at h) <;> subst h <;> simp (maxDischargeDepth := 12) [h0]

@[simp] theorem State.latchFan_event (s : State) (b : Bool) (j : Nat) (h0 : s.lp.latched.getLsbD j = true) :
    (s.latchFan b).lp.latched.getLsbD j = true := by
  generalize h : s.latchFan b = t
  unfold State.latchFan at h
  try dsimp only at h
  (repeat' split at h) <;> subst h <;> simp (maxDischargeDepth := 12) [h0]

@[simp] theorem State.latchBus_event (s : State) (c : BusCause) (j : Nat) (h0 : s.lp.latched.getLsbD j = true) :
    (s.latchBus c).lp.latched.getLsbD j = true := by
  generalize h : s.latchBus c = t
  unfold State.latchBus at h
  try dsimp only at h
  (repeat' split at h) <;> subst h <;> simp (maxDischargeDepth := 12) [h0]

@[simp] theorem State.latchEject_event (s : State) (h : Handle) (j : Nat) (h0 : s.lp.latched.getLsbD j = true) :
    (s.latchEject h).lp.latched.getLsbD j = true := by
  generalize h : s.latchEject h = t
  unfold State.latchEject at h
  try dsimp only at h
  (repeat' split at h) <;> subst h <;> simp (maxDischargeDepth := 12) [h0]

@[simp] theorem State.latchLane_event (s : State) (o : LastOutcome) (n : Nat) (j : Nat) (h0 : s.lp.latched.getLsbD j = true) :
    (s.latchLane o n).lp.latched.getLsbD j = true := by
  generalize h : s.latchLane o n = t
  unfold State.latchLane at h
  try dsimp only at h
  (repeat' split at h) <;> subst h <;> simp (maxDischargeDepth := 12) [h0]

@[simp] theorem recompute_event (s : State) (j : Nat) (h0 : s.lp.latched.getLsbD j = true) :
    (recompute s).lp.latched.getLsbD j = true := by
  generalize h : recompute s = t
  unfold recompute at h
  try dsimp only at h
  (repeat' split at h) <;> subst h <;> simp (maxDischargeDepth := 12) [h0]

@[simp] theorem setClaim_event (c : Claim) (s : State) (j : Nat) (h0 : s.lp.latched.getLsbD j = true) :
    (setClaim c s).lp.latched.getLsbD j = true := by
  generalize h : setClaim c s = t
  unfold setClaim at h
  try dsimp only at h
  (repeat' split at h) <;> subst h <;> simp (maxDischargeDepth := 12) [h0]

@[simp] theorem delClaim_event (n : Nat) (s : State) (j : Nat) (h0 : s.lp.latched.getLsbD j = true) :
    (delClaim n s).lp.latched.getLsbD j = true := by
  generalize h : delClaim n s = t
  unfold delClaim at h
  try dsimp only at h
  (repeat' split at h) <;> subst h <;> simp (maxDischargeDepth := 12) [h0]

@[simp] theorem writeClaim_event (n : Nat) (s : State) (j : Nat) (h0 : s.lp.latched.getLsbD j = true) :
    (writeClaim n s).lp.latched.getLsbD j = true := by
  generalize h : writeClaim n s = t
  unfold writeClaim at h
  try dsimp only at h
  (repeat' split at h) <;> subst h <;> simp (maxDischargeDepth := 12) [h0]

@[simp] theorem withdraw_event (s : State) (j : Nat) (h0 : s.lp.latched.getLsbD j = true) :
    (withdraw s).lp.latched.getLsbD j = true := by
  generalize h : withdraw s = t
  unfold withdraw at h
  try dsimp only at h
  (repeat' split at h) <;> subst h <;> simp (maxDischargeDepth := 12) [h0]

@[simp] theorem enterClaiming_event (s : State) (j : Nat) (h0 : s.lp.latched.getLsbD j = true) :
    (enterClaiming s).lp.latched.getLsbD j = true := by
  generalize h : enterClaiming s = t
  unfold enterClaiming at h
  try dsimp only at h
  (repeat' split at h) <;> subst h <;> simp (maxDischargeDepth := 12) [h0]

@[simp] theorem endCooldown_event (s : State) (j : Nat) (h0 : s.lp.latched.getLsbD j = true) :
    (endCooldown s).lp.latched.getLsbD j = true := by
  generalize h : endCooldown s = t
  unfold endCooldown at h
  try dsimp only at h
  (repeat' split at h) <;> subst h <;> simp (maxDischargeDepth := 12) [h0]

@[simp] theorem faultPath_event (r : OffReason) (c : PowerCause) (s : State) (j : Nat) (h0 : s.lp.latched.getLsbD j = true) :
    (faultPath r c s).lp.latched.getLsbD j = true := by
  generalize h : faultPath r c s = t
  unfold faultPath at h
  try dsimp only at h
  (repeat' split at h) <;> subst h <;> simp (maxDischargeDepth := 12) [h0]

@[simp] theorem endStopping_event (s : State) (j : Nat) (h0 : s.lp.latched.getLsbD j = true) :
    (endStopping s).lp.latched.getLsbD j = true := by
  generalize h : endStopping s = t
  unfold endStopping at h
  try dsimp only at h
  (repeat' split at h) <;> subst h <;> simp (maxDischargeDepth := 12) [h0]

@[simp] theorem powerOffPath_event (s : State) (j : Nat) (h0 : s.lp.latched.getLsbD j = true) :
    (powerOffPath s).lp.latched.getLsbD j = true := by
  generalize h : powerOffPath s = t
  unfold powerOffPath at h
  try dsimp only at h
  (repeat' split at h) <;> subst h <;> simp (maxDischargeDepth := 12) [h0]

@[simp] theorem forcedOff_event (c : ShedCause) (s : State) (j : Nat) (h0 : s.lp.latched.getLsbD j = true) :
    (forcedOff c s).lp.latched.getLsbD j = true := by
  generalize h : forcedOff c s = t
  unfold forcedOff at h
  try dsimp only at h
  (repeat' split at h) <;> subst h <;> simp (maxDischargeDepth := 12) [h0]

@[simp] theorem stoppingFall_event (c : ShedCause) (s : State) (j : Nat) (h0 : s.lp.latched.getLsbD j = true) :
    (stoppingFall c s).lp.latched.getLsbD j = true := by
  generalize h : stoppingFall c s = t
  unfold stoppingFall at h
  try dsimp only at h
  (repeat' split at h) <;> subst h <;> simp (maxDischargeDepth := 12) [h0]

@[simp] theorem dropToFloor_event (c : ShedCause) (s : State) (j : Nat) (h0 : s.lp.latched.getLsbD j = true) :
    (dropToFloor c s).lp.latched.getLsbD j = true := by
  generalize h : dropToFloor c s = t
  unfold dropToFloor at h
  try dsimp only at h
  (repeat' split at h) <;> subst h <;> simp (maxDischargeDepth := 12) [h0]

@[simp] theorem lossAtRest_event (s : State) (j : Nat) (h0 : s.lp.latched.getLsbD j = true) :
    (lossAtRest s).lp.latched.getLsbD j = true := by
  generalize h : lossAtRest s = t
  unfold lossAtRest at h
  try dsimp only at h
  (repeat' split at h) <;> subst h <;> simp (maxDischargeDepth := 12) [h0]

@[simp] theorem endLevelRaise_event (c d : ShedCause) (b : Bool) (s : State) (j : Nat) (h0 : s.lp.latched.getLsbD j = true) :
    (endLevelRaise c d b s).lp.latched.getLsbD j = true := by
  generalize h : endLevelRaise c d b s = t
  unfold endLevelRaise at h
  try dsimp only at h
  (repeat' split at h) <;> subst h <;> simp (maxDischargeDepth := 12) [h0]

@[simp] theorem failAmountRaise_event (s : State) (j : Nat) (h0 : s.lp.latched.getLsbD j = true) :
    (failAmountRaise s).lp.latched.getLsbD j = true := by
  generalize h : failAmountRaise s = t
  unfold failAmountRaise at h
  try dsimp only at h
  (repeat' split at h) <;> subst h <;> simp (maxDischargeDepth := 12) [h0]

@[simp] theorem lookRaise_event (s : State) (j : Nat) (h0 : s.lp.latched.getLsbD j = true) :
    (lookRaise s).lp.latched.getLsbD j = true := by
  generalize h : lookRaise s = t
  unfold lookRaise at h
  try dsimp only at h
  (repeat' split at h) <;> subst h <;> simp (maxDischargeDepth := 12) [h0]

@[simp] theorem shedAct_event (c : ShedCause) (s : State) (j : Nat) (h0 : s.lp.latched.getLsbD j = true) :
    (shedAct c s).lp.latched.getLsbD j = true := by
  generalize h : shedAct c s = t
  unfold shedAct at h
  try dsimp only at h
  (repeat' split at h) <;> subst h <;> simp (maxDischargeDepth := 12) [h0]

@[simp] theorem stalePath_event (s : State) (j : Nat) (h0 : s.lp.latched.getLsbD j = true) :
    (stalePath s).lp.latched.getLsbD j = true := by
  generalize h : stalePath s = t
  unfold stalePath at h
  try dsimp only at h
  (repeat' split at h) <;> subst h <;> simp (maxDischargeDepth := 12) [h0]

@[simp] theorem staleCleared_event (s : State) (j : Nat) (h0 : s.lp.latched.getLsbD j = true) :
    (staleCleared s).lp.latched.getLsbD j = true := by
  generalize h : staleCleared s = t
  unfold staleCleared at h
  try dsimp only at h
  (repeat' split at h) <;> subst h <;> simp (maxDischargeDepth := 12) [h0]

@[simp] theorem rewriteLanes_event (s : State) (j : Nat) (h0 : s.lp.latched.getLsbD j = true) :
    (rewriteLanes s).lp.latched.getLsbD j = true := by
  generalize h : rewriteLanes s = t
  unfold rewriteLanes at h
  try dsimp only at h
  (repeat' split at h) <;> subst h <;> simp (maxDischargeDepth := 12) [h0]

@[simp] theorem serve_event (r : Request) (q : List Request) (s : State) (j : Nat) (h0 : s.lp.latched.getLsbD j = true) :
    (serve r q s).lp.latched.getLsbD j = true := by
  generalize h : serve r q s = t
  unfold serve at h
  try dsimp only at h
  (repeat' split at h) <;> subst h <;> simp (maxDischargeDepth := 12) [h0]

@[simp] theorem reservationFails_event (s : State) (j : Nat) (h0 : s.lp.latched.getLsbD j = true) :
    (reservationFails s).lp.latched.getLsbD j = true := by
  generalize h : reservationFails s = t
  unfold reservationFails at h
  try dsimp only at h
  (repeat' split at h) <;> subst h <;> simp (maxDischargeDepth := 12) [h0]

@[simp] theorem arbiterLoop_event (n : Nat) (s : State) (j : Nat) (h0 : s.lp.latched.getLsbD j = true) :
    (arbiterLoop n s).lp.latched.getLsbD j = true := by
  induction n generalizing s with
  | zero => simp (maxDischargeDepth := 12) [arbiterLoop, h0]
  | succ n ih => unfold arbiterLoop; dsimp only; (repeat' split) <;> simp (maxDischargeDepth := 12) [ih, h0]

@[simp] theorem arbiter_event (s : State) (j : Nat) (h0 : s.lp.latched.getLsbD j = true) :
    (arbiter s).lp.latched.getLsbD j = true := by
  generalize h : arbiter s = t
  unfold arbiter at h
  try dsimp only at h
  (repeat' split at h) <;> subst h <;> simp (maxDischargeDepth := 12) [h0]

@[simp] theorem roundLoop_event (n : Nat) (s : State) (j : Nat) (h0 : s.lp.latched.getLsbD j = true) :
    (roundLoop n s).lp.latched.getLsbD j = true := by
  induction n generalizing s with
  | zero => simp (maxDischargeDepth := 12) [roundLoop, h0]
  | succ n ih => unfold roundLoop; dsimp only; (repeat' split) <;> simp (maxDischargeDepth := 12) [ih, h0]

@[simp] theorem arbiterRound_event (s : State) (j : Nat) (h0 : s.lp.latched.getLsbD j = true) :
    (arbiterRound s).lp.latched.getLsbD j = true := by
  generalize h : arbiterRound s = t
  unfold arbiterRound at h
  try dsimp only at h
  (repeat' split at h) <;> subst h <;> simp (maxDischargeDepth := 12) [h0]

@[simp] theorem reservationEnds_event (s : State) (j : Nat) (h0 : s.lp.latched.getLsbD j = true) :
    (reservationEnds s).lp.latched.getLsbD j = true := by
  generalize h : reservationEnds s = t
  unfold reservationEnds at h
  try dsimp only at h
  (repeat' split at h) <;> subst h <;> simp (maxDischargeDepth := 12) [h0]

@[simp] theorem enterOn_event (s : State) (j : Nat) (h0 : s.lp.latched.getLsbD j = true) :
    (enterOn s).lp.latched.getLsbD j = true := by
  generalize h : enterOn s = t
  unfold enterOn at h
  try dsimp only at h
  (repeat' split at h) <;> subst h <;> simp (maxDischargeDepth := 12) [h0]

@[simp] theorem enterEnabling_event (s : State) (j : Nat) (h0 : s.lp.latched.getLsbD j = true) :
    (enterEnabling s).lp.latched.getLsbD j = true := by
  generalize h : enterEnabling s = t
  unfold enterEnabling at h
  try dsimp only at h
  (repeat' split at h) <;> subst h <;> simp (maxDischargeDepth := 12) [h0]

@[simp] theorem psLoss_event (s : State) (j : Nat) (h0 : s.lp.latched.getLsbD j = true) :
    (psLoss s).lp.latched.getLsbD j = true := by
  generalize h : psLoss s = t
  unfold psLoss at h
  try dsimp only at h
  (repeat' split at h) <;> subst h <;> simp (maxDischargeDepth := 12) [h0]

@[simp] theorem psAdmitted_event (s : State) (j : Nat) (h0 : s.lp.latched.getLsbD j = true) :
    (psAdmitted s).lp.latched.getLsbD j = true := by
  generalize h : psAdmitted s = t
  unfold psAdmitted at h
  try dsimp only at h
  (repeat' split at h) <;> subst h <;> simp (maxDischargeDepth := 12) [h0]

@[simp] theorem noticed_event (f : State → State) (s : State) (j : Nat) (h0 : (f s).lp.latched.getLsbD j = true) :
    (noticed f s).lp.latched.getLsbD j = true := by
  generalize h : noticed f s = t
  unfold noticed at h
  try dsimp only at h
  (repeat' split at h) <;> subst h <;> simp (maxDischargeDepth := 12) [h0]

@[simp] theorem takeRelease_event (n : Nat) (s : State) (j : Nat) (h0 : s.lp.latched.getLsbD j = true) :
    (takeRelease n s).lp.latched.getLsbD j = true := by
  generalize h : takeRelease n s = t
  unfold takeRelease at h
  try dsimp only at h
  (repeat' split at h) <;> subst h <;> simp (maxDischargeDepth := 12) [h0]

@[simp] theorem takeRequest_event (n m : Nat) (e : RosterEntry) (s : State) (j : Nat) (h0 : s.lp.latched.getLsbD j = true) :
    (takeRequest n m e s).lp.latched.getLsbD j = true := by
  generalize h : takeRequest n m e s = t
  unfold takeRequest at h
  try dsimp only at h
  (repeat' split at h) <;> subst h <;> simp (maxDischargeDepth := 12) [h0]

@[simp] theorem lanesRemoved_event (n : Nat) (s : State) (j : Nat) (h0 : s.lp.latched.getLsbD j = true) :
    (lanesRemoved n s).lp.latched.getLsbD j = true := by
  generalize h : lanesRemoved n s = t
  unfold lanesRemoved at h
  try dsimp only at h
  (repeat' split at h) <;> subst h <;> simp (maxDischargeDepth := 12) [h0]

@[simp] theorem lanesUnpowered_event (n : Nat) (s : State) (j : Nat) (h0 : s.lp.latched.getLsbD j = true) :
    (lanesUnpowered n s).lp.latched.getLsbD j = true := by
  generalize h : lanesUnpowered n s = t
  unfold lanesUnpowered at h
  try dsimp only at h
  (repeat' split at h) <;> subst h <;> simp (maxDischargeDepth := 12) [h0]

@[simp] theorem laneFaultOn_event (n : Nat) (s : State) (j : Nat) (h0 : s.lp.latched.getLsbD j = true) :
    (laneFaultOn n s).lp.latched.getLsbD j = true := by
  generalize h : laneFaultOn n s = t
  unfold laneFaultOn at h
  try dsimp only at h
  (repeat' split at h) <;> subst h <;> simp (maxDischargeDepth := 12) [h0]

@[simp] theorem laneFaultOff_event (n : Nat) (s : State) (j : Nat) (h0 : s.lp.latched.getLsbD j = true) :
    (laneFaultOff n s).lp.latched.getLsbD j = true := by
  generalize h : laneFaultOff n s = t
  unfold laneFaultOff at h
  try dsimp only at h
  (repeat' split at h) <;> subst h <;> simp (maxDischargeDepth := 12) [h0]

@[simp] theorem evaluateSupply_event (s : State) (j : Nat) (h0 : s.lp.latched.getLsbD j = true) :
    (evaluateSupply s).lp.latched.getLsbD j = true := by
  generalize h : evaluateSupply s = t
  unfold evaluateSupply at h
  try dsimp only at h
  (repeat' split at h) <;> subst h <;> simp (maxDischargeDepth := 12) [h0]

@[simp] theorem askPulse_event (s : State) (j : Nat) (h0 : s.lp.latched.getLsbD j = true) :
    (askPulse s).lp.latched.getLsbD j = true := by
  generalize h : askPulse s = t
  unfold askPulse at h
  try dsimp only at h
  (repeat' split at h) <;> subst h <;> simp (maxDischargeDepth := 12) [h0]

@[simp] theorem watchLoad_event (n : Nat) (s : State) (j : Nat) (h0 : s.lp.latched.getLsbD j = true) :
    (watchLoad n s).lp.latched.getLsbD j = true := by
  generalize h : watchLoad n s = t
  unfold watchLoad at h
  try dsimp only at h
  (repeat' split at h) <;> subst h <;> simp (maxDischargeDepth := 12) [h0]

@[simp] theorem endGuard_event (s : State) (j : Nat) (h0 : s.lp.latched.getLsbD j = true) :
    (endGuard s).lp.latched.getLsbD j = true := by
  generalize h : endGuard s = t
  unfold endGuard at h
  try dsimp only at h
  (repeat' split at h) <;> subst h <;> simp (maxDischargeDepth := 12) [h0]

@[simp] theorem endDrain_event (s : State) (j : Nat) (h0 : s.lp.latched.getLsbD j = true) :
    (endDrain s).lp.latched.getLsbD j = true := by
  generalize h : endDrain s = t
  unfold endDrain at h
  try dsimp only at h
  (repeat' split at h) <;> subst h <;> simp (maxDischargeDepth := 12) [h0]

@[simp] theorem supplyOff_event (s : State) (j : Nat) (h0 : s.lp.latched.getLsbD j = true) :
    (supplyOff s).lp.latched.getLsbD j = true := by
  generalize h : supplyOff s = t
  unfold supplyOff at h
  try dsimp only at h
  (repeat' split at h) <;> subst h <;> simp (maxDischargeDepth := 12) [h0]

@[simp] theorem supplyOn_event (s : State) (j : Nat) (h0 : s.lp.latched.getLsbD j = true) :
    (supplyOn s).lp.latched.getLsbD j = true := by
  generalize h : supplyOn s = t
  unfold supplyOn at h
  try dsimp only at h
  (repeat' split at h) <;> subst h <;> simp (maxDischargeDepth := 12) [h0]

@[simp] theorem fanChanged_event (b : Bool) (s : State) (j : Nat) (h0 : s.lp.latched.getLsbD j = true) :
    (fanChanged b s).lp.latched.getLsbD j = true := by
  generalize h : fanChanged b s = t
  unfold fanChanged at h
  try dsimp only at h
  (repeat' split at h) <;> subst h <;> simp (maxDischargeDepth := 12) [h0]

@[simp] theorem judgeOne_event (k : Nat) (s : State) (j : Nat) (h0 : s.lp.latched.getLsbD j = true) :
    (judgeOne k s).lp.latched.getLsbD j = true := by
  generalize h : judgeOne k s = t
  unfold judgeOne at h
  try dsimp only at h
  (repeat' split at h) <;> subst h <;> simp (maxDischargeDepth := 12) [h0]

@[simp] theorem judgeRotors_event (ks : List Nat) (s : State) (j : Nat) (h0 : s.lp.latched.getLsbD j = true) :
    (judgeRotors ks s).lp.latched.getLsbD j = true := by
  induction ks generalizing s with
  | nil => simp (maxDischargeDepth := 12) [judgeRotors, h0]
  | cons k ks ih => unfold judgeRotors; split <;> simp (maxDischargeDepth := 12) [ih, h0]

@[simp] theorem judgeSustained_event (s : State) (j : Nat) (h0 : s.lp.latched.getLsbD j = true) :
    (judgeSustained s).lp.latched.getLsbD j = true := by
  generalize h : judgeSustained s = t
  unfold judgeSustained at h
  try dsimp only at h
  (repeat' split at h) <;> subst h <;> simp (maxDischargeDepth := 12) [h0]

@[simp] theorem fanBeat_event (s : State) (j : Nat) (h0 : s.lp.latched.getLsbD j = true) :
    (fanBeat s).lp.latched.getLsbD j = true := by
  generalize h : fanBeat s = t
  unfold fanBeat at h
  try dsimp only at h
  (repeat' split at h) <;> subst h <;> simp (maxDischargeDepth := 12) [h0]

@[simp] theorem thermalReports_event (a b : TChannel) (h : Bool) (s : State) (j : Nat) (h0 : s.lp.latched.getLsbD j = true) :
    (thermalReports a b h s).lp.latched.getLsbD j = true := by
  generalize h : thermalReports a b h s = t
  unfold thermalReports at h
  try dsimp only at h
  (repeat' split at h) <;> subst h <;> simp (maxDischargeDepth := 12) [h0]

@[simp] theorem convertT_event (k : Nat) (d : Option Int) (s : State) (j : Nat) (h0 : s.lp.latched.getLsbD j = true) :
    (convertT k d s).lp.latched.getLsbD j = true := by
  generalize h : convertT k d s = t
  unfold convertT at h
  try dsimp only at h
  (repeat' split at h) <;> subst h <;> simp (maxDischargeDepth := 12) [h0]

@[simp] theorem convertV_event (k : Nat) (v : Int) (s : State) (j : Nat) (h0 : s.lp.latched.getLsbD j = true) :
    (convertV k v s).lp.latched.getLsbD j = true := by
  generalize h : convertV k v s = t
  unfold convertV at h
  try dsimp only at h
  (repeat' split at h) <;> subst h <;> simp (maxDischargeDepth := 12) [h0]

@[simp] theorem supplyConversion_event (k : Nat) (s : State) (j : Nat) (h0 : s.lp.latched.getLsbD j = true) :
    (supplyConversion k s).lp.latched.getLsbD j = true := by
  generalize h : supplyConversion k s = t
  unfold supplyConversion at h
  try dsimp only at h
  (repeat' split at h) <;> subst h <;> simp (maxDischargeDepth := 12) [h0]

@[simp] theorem convert_event (d : Option Int) (v : Int) (s : State) (j : Nat) (h0 : s.lp.latched.getLsbD j = true) :
    (convert d v s).lp.latched.getLsbD j = true := by
  generalize h : convert d v s = t
  unfold convert at h
  try dsimp only at h
  (repeat' split at h) <;> subst h <;> simp (maxDischargeDepth := 12) [h0]

@[simp] theorem lateGrant_event (n : Nat) (s : State) (j : Nat) (h0 : s.lp.latched.getLsbD j = true) :
    (lateGrant n s).lp.latched.getLsbD j = true := by
  generalize h : lateGrant n s = t
  unfold lateGrant at h
  try dsimp only at h
  (repeat' split at h) <;> subst h <;> simp (maxDischargeDepth := 12) [h0]

@[simp] theorem closeRequest_event (n : Nat) (r : LaneRecord) (a : Answer) (h : Half) (s : State) (j : Nat) (h0 : s.lp.latched.getLsbD j = true) :
    (closeRequest n r a h s).lp.latched.getLsbD j = true := by
  generalize h : closeRequest n r a h s = t
  unfold closeRequest at h
  try dsimp only at h
  (repeat' split at h) <;> subst h <;> simp (maxDischargeDepth := 12) [h0]

@[simp] theorem takeGrant_event (n : Nat) (a : Answer) (h : Half) (s : State) (j : Nat) (h0 : s.lp.latched.getLsbD j = true) :
    (takeGrant n a h s).lp.latched.getLsbD j = true := by
  generalize h : takeGrant n a h s = t
  unfold takeGrant at h
  try dsimp only at h
  (repeat' split at h) <;> subst h <;> simp (maxDischargeDepth := 12) [h0]

@[simp] theorem replyTimeout_event (n : Nat) (s : State) (j : Nat) (h0 : s.lp.latched.getLsbD j = true) :
    (replyTimeout n s).lp.latched.getLsbD j = true := by
  generalize h : replyTimeout n s = t
  unfold replyTimeout at h
  try dsimp only at h
  (repeat' split at h) <;> subst h <;> simp (maxDischargeDepth := 12) [h0]

@[simp] theorem addChange_event (k : ChangeKind) (n : Nat) (e : RosterEntry) (s : State) (j : Nat) (h0 : s.lp.latched.getLsbD j = true) :
    (addChange k n e s).lp.latched.getLsbD j = true := by
  generalize h : addChange k n e s = t
  unfold addChange at h
  try dsimp only at h
  (repeat' split at h) <;> subst h <;> simp (maxDischargeDepth := 12) [h0]

@[simp] theorem budgetRemoved_event (n : Nat) (s : State) (j : Nat) (h0 : s.lp.latched.getLsbD j = true) :
    (budgetRemoved n s).lp.latched.getLsbD j = true := by
  generalize h : budgetRemoved n s = t
  unfold budgetRemoved at h
  try dsimp only at h
  (repeat' split at h) <;> subst h <;> simp (maxDischargeDepth := 12) [h0]

@[simp] theorem lanesReported_event (n : Nat) (s : State) (j : Nat) (h0 : s.lp.latched.getLsbD j = true) :
    (lanesReported n s).lp.latched.getLsbD j = true := by
  generalize h : lanesReported n s = t
  unfold lanesReported at h
  try dsimp only at h
  (repeat' split at h) <;> subst h <;> simp (maxDischargeDepth := 12) [h0]

@[simp] theorem removalReport_event (n : Nat) (s : State) (j : Nat) (h0 : s.lp.latched.getLsbD j = true) :
    (removalReport n s).lp.latched.getLsbD j = true := by
  generalize h : removalReport n s = t
  unfold removalReport at h
  try dsimp only at h
  (repeat' split at h) <;> subst h <;> simp (maxDischargeDepth := 12) [h0]

@[simp] theorem removeEntry_event (k : ChangeKind) (n : Nat) (e : RosterEntry) (s : State) (j : Nat) (h0 : s.lp.latched.getLsbD j = true) :
    (removeEntry k n e s).lp.latched.getLsbD j = true := by
  generalize h : removeEntry k n e s = t
  unfold removeEntry at h
  try dsimp only at h
  (repeat' split at h) <;> subst h <;> simp (maxDischargeDepth := 12) [h0]

@[simp] theorem budgetPresent_event (n : Nat) (e : RosterEntry) (s : State) (j : Nat) (h0 : s.lp.latched.getLsbD j = true) :
    (budgetPresent n e s).lp.latched.getLsbD j = true := by
  generalize h : budgetPresent n e s = t
  unfold budgetPresent at h
  try dsimp only at h
  (repeat' split at h) <;> subst h <;> simp (maxDischargeDepth := 12) [h0]

@[simp] theorem insertEntry_event (n : Nat) (e : RosterEntry) (s : State) (j : Nat) (h0 : s.lp.latched.getLsbD j = true) :
    (insertEntry n e s).lp.latched.getLsbD j = true := by
  generalize h : insertEntry n e s = t
  unfold insertEntry at h
  try dsimp only at h
  (repeat' split at h) <;> subst h <;> simp (maxDischargeDepth := 12) [h0]

@[simp] theorem swapEntry_event (n : Nat) (e : RosterEntry) (s : State) (j : Nat) (h0 : s.lp.latched.getLsbD j = true) :
    (swapEntry n e s).lp.latched.getLsbD j = true := by
  generalize h : swapEntry n e s = t
  unfold swapEntry at h
  try dsimp only at h
  (repeat' split at h) <;> subst h <;> simp (maxDischargeDepth := 12) [h0]

@[simp] theorem budgetAnnounced_event (n : Nat) (e e' : RosterEntry) (s : State) (j : Nat) (h0 : s.lp.latched.getLsbD j = true) :
    (budgetAnnounced n e e' s).lp.latched.getLsbD j = true := by
  generalize h : budgetAnnounced n e e' s = t
  unfold budgetAnnounced at h
  try dsimp only at h
  (repeat' split at h) <;> subst h <;> simp (maxDischargeDepth := 12) [h0]

@[simp] theorem announceEntry_event (n : Nat) (e : RosterEntry) (a : Announcement) (s : State) (j : Nat) (h0 : s.lp.latched.getLsbD j = true) :
    (announceEntry n e a s).lp.latched.getLsbD j = true := by
  generalize h : announceEntry n e a s = t
  unfold announceEntry at h
  try dsimp only at h
  (repeat' split at h) <;> subst h <;> simp (maxDischargeDepth := 12) [h0]

@[simp] theorem takeAnnounce_event (n : Nat) (a : Announcement) (s : State) (j : Nat) (h0 : s.lp.latched.getLsbD j = true) :
    (takeAnnounce n a s).lp.latched.getLsbD j = true := by
  generalize h : takeAnnounce n a s = t
  unfold takeAnnounce at h
  try dsimp only at h
  (repeat' split at h) <;> subst h <;> simp (maxDischargeDepth := 12) [h0]

@[simp] theorem takeJoin_event (n : Nat) (r : Role) (i : Identity) (s : State) (j : Nat) (h0 : s.lp.latched.getLsbD j = true) :
    (takeJoin n r i s).lp.latched.getLsbD j = true := by
  generalize h : takeJoin n r i s = t
  unfold takeJoin at h
  try dsimp only at h
  (repeat' split at h) <;> subst h <;> simp (maxDischargeDepth := 12) [h0]

@[simp] theorem takeClaim_event (n : Nat) (e : RosterEntry) (p : ClaimPart) (s : State) (j : Nat) (h0 : s.lp.latched.getLsbD j = true) :
    (takeClaim n e p s).lp.latched.getLsbD j = true := by
  generalize h : takeClaim n e p s = t
  unfold takeClaim at h
  try dsimp only at h
  (repeat' split at h) <;> subst h <;> simp (maxDischargeDepth := 12) [h0]

@[simp] theorem takeReleaseFrame_event (n : Nat) (e : RosterEntry) (s : State) (j : Nat) (h0 : s.lp.latched.getLsbD j = true) :
    (takeReleaseFrame n e s).lp.latched.getLsbD j = true := by
  generalize h : takeReleaseFrame n e s = t
  unfold takeReleaseFrame at h
  try dsimp only at h
  (repeat' split at h) <;> subst h <;> simp (maxDischargeDepth := 12) [h0]

@[simp] theorem takeCapacity_event (n : Nat) (e : RosterEntry) (p : SupplyPart) (s : State) (j : Nat) (h0 : s.lp.latched.getLsbD j = true) :
    (takeCapacity n e p s).lp.latched.getLsbD j = true := by
  generalize h : takeCapacity n e p s = t
  unfold takeCapacity at h
  try dsimp only at h
  (repeat' split at h) <;> subst h <;> simp (maxDischargeDepth := 12) [h0]

@[simp] theorem takeFanstat_event (n : Nat) (e : RosterEntry) (p : FanPart) (s : State) (j : Nat) (h0 : s.lp.latched.getLsbD j = true) :
    (takeFanstat n e p s).lp.latched.getLsbD j = true := by
  generalize h : takeFanstat n e p s = t
  unfold takeFanstat at h
  try dsimp only at h
  (repeat' split at h) <;> subst h <;> simp (maxDischargeDepth := 12) [h0]

@[simp] theorem grantFrame_event (n : Nat) (e : RosterEntry) (p : List Byte) (s : State) (j : Nat) (h0 : s.lp.latched.getLsbD j = true) :
    (grantFrame n e p s).lp.latched.getLsbD j = true := by
  generalize h : grantFrame n e p s = t
  unfold grantFrame at h
  try dsimp only at h
  (repeat' split at h) <;> subst h <;> simp (maxDischargeDepth := 12) [h0]

@[simp] theorem requestFrame_event (n : Nat) (e : RosterEntry) (p : List Byte) (s : State) (j : Nat) (h0 : s.lp.latched.getLsbD j = true) :
    (requestFrame n e p s).lp.latched.getLsbD j = true := by
  generalize h : requestFrame n e p s = t
  unfold requestFrame at h
  try dsimp only at h
  (repeat' split at h) <;> subst h <;> simp (maxDischargeDepth := 12) [h0]

@[simp] theorem releaseFrame_event (n : Nat) (e : RosterEntry) (p : List Byte) (s : State) (j : Nat) (h0 : s.lp.latched.getLsbD j = true) :
    (releaseFrame n e p s).lp.latched.getLsbD j = true := by
  generalize h : releaseFrame n e p s = t
  unfold releaseFrame at h
  try dsimp only at h
  (repeat' split at h) <;> subst h <;> simp (maxDischargeDepth := 12) [h0]

@[simp] theorem takeMail_event (n : Nat) (b : Bool) (p : List Byte) (s : State) (j : Nat) (h0 : s.lp.latched.getLsbD j = true) :
    (takeMail n b p s).lp.latched.getLsbD j = true := by
  generalize h : takeMail n b p s = t
  unfold takeMail at h
  try dsimp only at h
  (repeat' split at h) <;> subst h <;> simp (maxDischargeDepth := 12) [h0]

@[simp] theorem deliverKnown_event (k n : Nat) (e : RosterEntry) (p : List Byte) (s : State) (j : Nat) (h0 : s.lp.latched.getLsbD j = true) :
    (deliverKnown k n e p s).lp.latched.getLsbD j = true := by
  generalize h : deliverKnown k n e p s = t
  unfold deliverKnown at h
  try dsimp only at h
  (repeat' split at h) <;> subst h <;> simp (maxDischargeDepth := 12) [h0]

@[simp] theorem deliverUnknown_event (k n : Nat) (p : List Byte) (s : State) (j : Nat) (h0 : s.lp.latched.getLsbD j = true) :
    (deliverUnknown k n p s).lp.latched.getLsbD j = true := by
  generalize h : deliverUnknown k n p s = t
  unfold deliverUnknown at h
  try dsimp only at h
  (repeat' split at h) <;> subst h <;> simp (maxDischargeDepth := 12) [h0]

@[simp] theorem deliver_event (k n : Nat) (p : List Byte) (s : State) (j : Nat) (h0 : s.lp.latched.getLsbD j = true) :
    (deliver k n p s).lp.latched.getLsbD j = true := by
  generalize h : deliver k n p s = t
  unfold deliver at h
  try dsimp only at h
  (repeat' split at h) <;> subst h <;> simp (maxDischargeDepth := 12) [h0]

@[simp] theorem roleEntry_event (s : State) (j : Nat) (h0 : s.lp.latched.getLsbD j = true) :
    (roleEntry s).lp.latched.getLsbD j = true := by
  generalize h : roleEntry s = t
  unfold roleEntry at h
  try dsimp only at h
  (repeat' split at h) <;> subst h <;> simp (maxDischargeDepth := 12) [h0]

@[simp] theorem enterActive_event (s : State) (j : Nat) (h0 : s.lp.latched.getLsbD j = true) :
    (enterActive s).lp.latched.getLsbD j = true := by
  generalize h : enterActive s = t
  unfold enterActive at h
  try dsimp only at h
  (repeat' split at h) <;> subst h <;> simp (maxDischargeDepth := 12) [h0]

@[simp] theorem enterReady_event (s : State) (j : Nat) (h0 : s.lp.latched.getLsbD j = true) :
    (enterReady s).lp.latched.getLsbD j = true := by
  generalize h : enterReady s = t
  unfold enterReady at h
  try dsimp only at h
  (repeat' split at h) <;> subst h <;> simp (maxDischargeDepth := 12) [h0]

@[simp] theorem clashPower_event (s : State) (j : Nat) (h0 : s.lp.latched.getLsbD j = true) :
    (clashPower s).lp.latched.getLsbD j = true := by
  generalize h : clashPower s = t
  unfold clashPower at h
  try dsimp only at h
  (repeat' split at h) <;> subst h <;> simp (maxDischargeDepth := 12) [h0]

@[simp] theorem dropOwnClaim_event (s : State) (j : Nat) (h0 : s.lp.latched.getLsbD j = true) :
    (dropOwnClaim s).lp.latched.getLsbD j = true := by
  generalize h : dropOwnClaim s = t
  unfold dropOwnClaim at h
  try dsimp only at h
  (repeat' split at h) <;> subst h <;> simp (maxDischargeDepth := 12) [h0]

@[simp] theorem endGrace_event (s : State) (j : Nat) (h0 : s.lp.latched.getLsbD j = true) :
    (endGrace s).lp.latched.getLsbD j = true := by
  generalize h : endGrace s = t
  unfold endGrace at h
  try dsimp only at h
  (repeat' split at h) <;> subst h <;> simp (maxDischargeDepth := 12) [h0]

@[simp] theorem claimingOff_event (s : State) (j : Nat) (h0 : s.lp.latched.getLsbD j = true) :
    (claimingOff s).lp.latched.getLsbD j = true := by
  generalize h : claimingOff s = t
  unfold claimingOff at h
  try dsimp only at h
  (repeat' split at h) <;> subst h <;> simp (maxDischargeDepth := 12) [h0]

@[simp] theorem consumerOpens_event (s : State) (j : Nat) (h0 : s.lp.latched.getLsbD j = true) :
    (consumerOpens s).lp.latched.getLsbD j = true := by
  generalize h : consumerOpens s = t
  unfold consumerOpens at h
  try dsimp only at h
  (repeat' split at h) <;> subst h <;> simp (maxDischargeDepth := 12) [h0]

@[simp] theorem supplyOpens_event (s : State) (j : Nat) (h0 : s.lp.latched.getLsbD j = true) :
    (supplyOpens s).lp.latched.getLsbD j = true := by
  generalize h : supplyOpens s = t
  unfold supplyOpens at h
  try dsimp only at h
  (repeat' split at h) <;> subst h <;> simp (maxDischargeDepth := 12) [h0]

@[simp] theorem handleOpens_event (s : State) (j : Nat) (h0 : s.lp.latched.getLsbD j = true) :
    (handleOpens s).lp.latched.getLsbD j = true := by
  generalize h : handleOpens s = t
  unfold handleOpens at h
  try dsimp only at h
  (repeat' split at h) <;> subst h <;> simp (maxDischargeDepth := 12) [h0]

@[simp] theorem rejoin_event (s : State) (j : Nat) (h0 : s.lp.latched.getLsbD j = true) :
    (rejoin s).lp.latched.getLsbD j = true := by
  generalize h : rejoin s = t
  unfold rejoin at h
  try dsimp only at h
  (repeat' split at h) <;> subst h <;> simp (maxDischargeDepth := 12) [h0]

@[simp] theorem unseatedPath_event (s : State) (j : Nat) (h0 : s.lp.latched.getLsbD j = true) :
    (unseatedPath s).lp.latched.getLsbD j = true := by
  generalize h : unseatedPath s = t
  unfold unseatedPath at h
  try dsimp only at h
  (repeat' split at h) <;> subst h <;> simp (maxDischargeDepth := 12) [h0]

@[simp] theorem listenMore_event (s : State) (j : Nat) (h0 : s.lp.latched.getLsbD j = true) :
    (listenMore s).lp.latched.getLsbD j = true := by
  generalize h : listenMore s = t
  unfold listenMore at h
  try dsimp only at h
  (repeat' split at h) <;> subst h <;> simp (maxDischargeDepth := 12) [h0]

/-- The end of a min-off of 0 ms clears no event. -/
@[simp] theorem minOffAtOnce_event (s t : State) (j : Nat) (h0 : t.lp.latched.getLsbD j = true) :
    (minOffAtOnce s t).lp.latched.getLsbD j = true := by
  unfold minOffAtOnce
  split <;> simp [h0]

end Sys2Proof.Machine
end

