-- ==== Sys2Proof/Laws/PerInstr.lean ====
section
/-! SUPPORT. One family of statements about every command as syntax: the packet of a local-port command (R197) is one that
R182 takes. -/

namespace Sys2Proof.Laws.Packet

open Sys2Proof

/-- The packet of a command, where it has one, is not empty and R182 does not refuse it. -/
def Statement (i : Instr) : Prop :=
  ∀ p, encodePacket i = some p → p ≠ [] ∧ packetRefused p false = false

theorem seatedAsserted (straps : StrapPins) : Statement (.seatedAsserted straps) := by
  intro p h
  cases h

theorem seatedLost : Statement .seatedLost := by
  intro p h
  cases h

theorem powerRemoved : Statement .powerRemoved := by
  intro p h
  cases h

theorem surpriseRemoval : Statement .surpriseRemoval := by
  intro p h
  cases h

theorem unseatedWaitEnd : Statement .unseatedWaitEnd := by
  intro p h
  cases h

theorem settleEnd (straps : StrapPins) : Statement (.settleEnd straps) := by
  intro p h
  cases h

theorem listenWindowEnd : Statement .listenWindowEnd := by
  intro p h
  cases h

theorem restartWaitEnd : Statement .restartWaitEnd := by
  intro p h
  cases h

theorem resetNAsserted : Statement .resetNAsserted := by
  intro p h
  cases h

theorem resetNReleased : Statement .resetNReleased := by
  intro p h
  cases h

theorem handleInputChange (level : Bool) : Statement (.handleInputChange level) := by
  intro p h
  cases h

theorem handleOpening : Statement .handleOpening := by
  intro p h
  cases h

theorem handleClosing : Statement .handleClosing := by
  intro p h
  cases h

theorem graceEnd : Statement .graceEnd := by
  intro p h
  cases h

theorem powerGoodHigh : Statement .powerGoodHigh := by
  intro p h
  cases h

theorem powerGoodLost : Statement .powerGoodLost := by
  intro p h
  cases h

theorem tachEdge (rotor : Nat) (moment : Nat) : Statement (.tachEdge rotor moment) := by
  intro p h
  cases h

theorem conversionEnd (diode : Option Int) (volts : Int) : Statement (.conversionEnd diode volts) := by
  intro p h
  cases h

theorem shedPulseEnd : Statement .shedPulseEnd := by
  intro p h
  cases h

theorem overloadGuardEnd : Statement .overloadGuardEnd := by
  intro p h
  cases h

theorem drainEnd : Statement .drainEnd := by
  intro p h
  cases h

theorem busIdle (otherStarts : Bool) : Statement (.busIdle otherStarts) := by
  intro p h
  cases h

theorem transmissionStopped (how : StopKind) : Statement (.transmissionStopped how) := by
  intro p h
  cases h

theorem muteEnd : Statement .muteEnd := by
  intro p h
  cases h

theorem transmitSuccess : Statement .transmitSuccess := by
  intro p h
  cases h

theorem rateMeasurement (m : Nat) : Statement (.rateMeasurement m) := by
  intro p h
  cases h

theorem rateCounterOverflow : Statement .rateCounterOverflow := by
  intro p h
  cases h

theorem frameError (bits : List Bool) : Statement (.frameError bits) := by
  intro p h
  cases h

theorem shedDetection : Statement .shedDetection := by
  intro p h
  cases h

theorem claimReceived (src : BitVec 6) (payload : List Byte) : Statement (.claimReceived src payload) := by
  intro p h
  cases h

theorem releaseReceived (src : BitVec 6) (payload : List Byte) : Statement (.releaseReceived src payload) := by
  intro p h
  cases h

theorem capacityReceived (src : BitVec 6) (payload : List Byte) : Statement (.capacityReceived src payload) := by
  intro p h
  cases h

theorem fanstatReceived (src : BitVec 6) (payload : List Byte) : Statement (.fanstatReceived src payload) := by
  intro p h
  cases h

theorem laneGrantReceived (src : BitVec 6) (payload : List Byte) : Statement (.laneGrantReceived src payload) := by
  intro p h
  cases h

theorem laneRequestReceived (src : BitVec 6) (payload : List Byte) : Statement (.laneRequestReceived src payload) := by
  intro p h
  cases h

theorem laneReleaseReceived (src : BitVec 6) (payload : List Byte) : Statement (.laneReleaseReceived src payload) := by
  intro p h
  cases h

theorem thermalReceived (src : BitVec 6) (payload : List Byte) : Statement (.thermalReceived src payload) := by
  intro p h
  cases h

theorem announceReceived (src : BitVec 6) (payload : List Byte) : Statement (.announceReceived src payload) := by
  intro p h
  cases h

theorem joinReceived (src : BitVec 6) (payload : List Byte) : Statement (.joinReceived src payload) := by
  intro p h
  cases h

theorem leaveReceived (src : BitVec 6) (payload : List Byte) : Statement (.leaveReceived src payload) := by
  intro p h
  cases h

theorem mailReceived (src : BitVec 6) (payload : List Byte) : Statement (.mailReceived src payload) := by
  intro p h
  cases h

theorem round : Statement .round := by
  intro p h
  cases h

theorem agingVisit : Statement .agingVisit := by
  intro p h
  cases h

theorem beat : Statement .beat := by
  intro p h
  cases h

theorem holdOffEnd : Statement .holdOffEnd := by
  intro p h
  cases h

theorem powerGoodWindowExpiry : Statement .powerGoodWindowExpiry := by
  intro p h
  cases h

theorem minOnEnd : Statement .minOnEnd := by
  intro p h
  cases h

theorem minOffEnd : Statement .minOffEnd := by
  intro p h
  cases h

theorem shedHoldoffEnd : Statement .shedHoldoffEnd := by
  intro p h
  cases h

theorem raiseHoldOffEnd : Statement .raiseHoldOffEnd := by
  intro p h
  cases h

theorem reservationHoldOffEnd : Statement .reservationHoldOffEnd := by
  intro p h
  cases h

theorem laneDrainEnd (lane : Nat) : Statement (.laneDrainEnd lane) := by
  intro p h
  cases h

theorem replyWindowEnd (uplink : Nat) : Statement (.replyWindowEnd uplink) := by
  intro p h
  cases h

theorem chipSelectAsserted : Statement .chipSelectAsserted := by
  intro p h
  cases h

theorem commandInvalid (packet : List Byte) (partialByte : Bool) : Statement (.commandInvalid packet partialByte) := by
  intro p h
  cases h

theorem fetch (count : Nat) : Statement (.fetch count) := by
  intro p h
  cases h

theorem sense : Statement .sense := by
  intro p h
  cases h
  exact ⟨List.cons_ne_nil _ _, rfl⟩

theorem setMask (word : Half) : Statement (.setMask word) := by
  intro p h
  cases h
  exact ⟨List.cons_ne_nil _ _, rfl⟩

theorem configure (key : ConfigKey) (channel : Byte) (value : Word64) : Statement (.configure key channel value) := by
  intro p h
  cases h
  cases key <;> exact ⟨List.cons_ne_nil _ _, rfl⟩

theorem readConfig : Statement .readConfig := by
  intro p h
  cases h
  exact ⟨List.cons_ne_nil _ _, rfl⟩

theorem go : Statement .go := by
  intro p h
  cases h
  exact ⟨List.cons_ne_nil _ _, rfl⟩

theorem restart : Statement .restart := by
  intro p h
  cases h
  exact ⟨List.cons_ne_nil _ _, rfl⟩

theorem powerOn : Statement .powerOn := by
  intro p h
  cases h
  exact ⟨List.cons_ne_nil _ _, rfl⟩

theorem powerOff : Statement .powerOff := by
  intro p h
  cases h
  exact ⟨List.cons_ne_nil _ _, rfl⟩

theorem setLevel (level : Byte) : Statement (.setLevel level) := by
  intro p h
  cases h
  exact ⟨List.cons_ne_nil _ _, rfl⟩

theorem setAmount (amount : Half) : Statement (.setAmount amount) := by
  intro p h
  cases h
  exact ⟨List.cons_ne_nil _ _, rfl⟩

theorem clearFault : Statement .clearFault := by
  intro p h
  cases h
  exact ⟨List.cons_ne_nil _ _, rfl⟩

theorem readPower : Statement .readPower := by
  intro p h
  cases h
  exact ⟨List.cons_ne_nil _ _, rfl⟩

theorem readBudget : Statement .readBudget := by
  intro p h
  cases h
  exact ⟨List.cons_ne_nil _ _, rfl⟩

theorem readClaims : Statement .readClaims := by
  intro p h
  cases h
  exact ⟨List.cons_ne_nil _ _, rfl⟩

theorem readRoster (slot : Byte) : Statement (.readRoster slot) := by
  intro p h
  cases h
  exact ⟨List.cons_ne_nil _ _, rfl⟩

theorem readChanges : Statement .readChanges := by
  intro p h
  cases h
  exact ⟨List.cons_ne_nil _ _, rfl⟩

theorem readMonitor (channel : Byte) : Statement (.readMonitor channel) := by
  intro p h
  cases h
  exact ⟨List.cons_ne_nil _ _, rfl⟩

theorem setLimits (channel : Byte) (v0 v1 v2 v3 : Half) : Statement (.setLimits channel v0 v1 v2 v3) := by
  intro p h
  cases h
  exact ⟨List.cons_ne_nil _ _, rfl⟩

theorem readFan : Statement .readFan := by
  intro p h
  cases h
  exact ⟨List.cons_ne_nil _ _, rfl⟩

theorem requestLanes (uplink count : Byte) : Statement (.requestLanes uplink count) := by
  intro p h
  cases h
  exact ⟨List.cons_ne_nil _ _, rfl⟩

theorem releaseLanes (uplink : Byte) : Statement (.releaseLanes uplink) := by
  intro p h
  cases h
  exact ⟨List.cons_ne_nil _ _, rfl⟩

theorem readLanes : Statement .readLanes := by
  intro p h
  cases h
  exact ⟨List.cons_ne_nil _ _, rfl⟩

theorem setLaneFault (lane value : Byte) : Statement (.setLaneFault lane value) := by
  intro p h
  cases h
  exact ⟨List.cons_ne_nil _ _, rfl⟩

theorem sendMail (dest mode : Byte) (data : List Byte) : Statement (.sendMail dest mode data) := by
  intro p h
  cases h
  exact ⟨List.cons_ne_nil _ _, rfl⟩

theorem readMail : Statement .readMail := by
  intro p h
  cases h
  exact ⟨List.cons_ne_nil _ _, rfl⟩

theorem abortMail (tag : Byte) : Statement (.abortMail tag) := by
  intro p h
  cases h
  exact ⟨List.cons_ne_nil _ _, rfl⟩

theorem clearMailOverflow : Statement .clearMailOverflow := by
  intro p h
  cases h
  exact ⟨List.cons_ne_nil _ _, rfl⟩

theorem readBus (flags : Byte) : Statement (.readBus flags) := by
  intro p h
  cases h
  exact ⟨List.cons_ne_nil _ _, rfl⟩

theorem unknownKindReceived (low : BitVec 2) (src : BitVec 6) (payload : List Byte) : Statement (.unknownKindReceived low src payload) := by
  intro p h
  cases h

theorem strangerSlotFrame (kind : BitVec 4) (low : BitVec 4) (payload : List Byte) : Statement (.strangerSlotFrame kind low payload) := by
  intro p h
  cases h

theorem powerApplied (straps : StrapPins) : Statement (.powerApplied straps) := by
  intro p h
  cases h

theorem packetTaken (packet : List Byte) : Statement (.packetTaken packet) := by
  intro p h
  cases h

theorem emptyRelease : Statement .emptyRelease := by
  intro p h
  cases h

end Sys2Proof.Laws.Packet
end

