-- ==== Sys2Proof/Laws/Starts.lean ====
section
/-! SUPPORT. What answers, posts and the start of a frame leave of the lane manager: lanes, queue and reservation are not
theirs, only the holder records are (R30, R150). -/

namespace Sys2Proof.Machine

@[simp] theorem State.putHolder_lm (s : State) (n : Nat) (h : Holder) :
    (s.putHolder n h).lm.lanes = s.lm.lanes ∧ (s.putHolder n h).lm.queue = s.lm.queue ∧
      (s.putHolder n h).lm.reservation = s.lm.reservation := by
  simp [State.putHolder]

@[simp] theorem postGrant_lm (n : Nat) (s : State) :
    (postGrant n s).lm.lanes = s.lm.lanes ∧ (postGrant n s).lm.queue = s.lm.queue ∧
      (postGrant n s).lm.reservation = s.lm.reservation := by
  unfold postGrant
  (repeat' split) <;> simp [State.pushLane]

@[simp] theorem answer_lm (n : Nat) (a : Answer) (s : State) :
    (answer n a s).lm.lanes = s.lm.lanes ∧ (answer n a s).lm.queue = s.lm.queue ∧
      (answer n a s).lm.reservation = s.lm.reservation := by
  simp [answer]

@[simp] theorem answerAll_lm (a : Answer) (ns : List Nat) (s : State) :
    (answerAll a ns s).lm.lanes = s.lm.lanes ∧ (answerAll a ns s).lm.queue = s.lm.queue ∧
      (answerAll a ns s).lm.reservation = s.lm.reservation := by
  induction ns generalizing s with
  | nil => simp [answerAll]
  | cons n t ih => simp [answerAll, ih]

@[simp] theorem postBlade_lm (k : LaneKind) (u : Nat) (s : State) : (postBlade k u s).lm = s.lm := by
  unfold postBlade
  (repeat' split) <;> simp [State.pushLane, State.putRecord]

@[simp] theorem laneFreed_lm (s : State) :
    (laneFreed s).lm.lanes = s.lm.lanes ∧ (laneFreed s).lm.queue = s.lm.queue ∧
      (laneFreed s).lm.reservation = s.lm.reservation := by
  unfold laneFreed
  (repeat' split) <;> simp [State.putRecord]

@[simp] theorem State.emptyChoice_lm (s : State) (c : Choice) :
    (s.emptyChoice c).lm.lanes = s.lm.lanes ∧ (s.emptyChoice c).lm.queue = s.lm.queue ∧
      (s.emptyChoice c).lm.reservation = s.lm.reservation := by
  cases c <;> simp [State.emptyChoice, State.putKind]

@[simp] theorem State.beginTx_lm (s : State) (c : Choice) (p : List Byte) :
    (s.beginTx c p).lm.lanes = s.lm.lanes ∧ (s.beginTx c p).lm.queue = s.lm.queue ∧
      (s.beginTx c p).lm.reservation = s.lm.reservation := by
  cases c <;> simp only [State.beginTx]
  · simp
  · split <;> simp
  · split <;> simp

@[simp] theorem startLoop_lm (n : Nat) (s : State) :
    (startLoop n s).lm.lanes = s.lm.lanes ∧ (startLoop n s).lm.queue = s.lm.queue ∧
      (startLoop n s).lm.reservation = s.lm.reservation := by
  induction n generalizing s with
  | zero => simp [startLoop]
  | succ n ih =>
    unfold startLoop
    (repeat' split) <;> simp [ih]

@[simp] theorem startFrame_lm (s : State) :
    (startFrame s).lm.lanes = s.lm.lanes ∧ (startFrame s).lm.queue = s.lm.queue ∧
      (startFrame s).lm.reservation = s.lm.reservation := by
  unfold startFrame
  split <;> simp

end Sys2Proof.Machine
end

