-- ==== Sys2Proof/Laws/PortAnswers.lean ====
section
/-! SUPPORT. What a command of the local port leaves, read off the shared ending of Laws/Port.lean: where it is refused, and
where it only reads. -/

namespace Sys2Proof.Machine

/-! ## Packets -/

/-- A packet whose opening the port did not hear is not heeded (R194). -/
theorem State.heedsPacket_unheard {s : State} (h : s.pins.unheard = true) : s.heedsPacket = false := by
  simp [State.heedsPacket, h]

/-- A working port that heard the opening heeds the packet. -/
theorem State.heedsPacket_heard {s : State} (hs : s.pins.standby = true) (hr : s.pins.resetAsserted = false)
    (hu : s.pins.unheard = false) : s.heedsPacket = true := by
  simp [State.heedsPacket, State.portWorks, hs, hr, hu]

/-- The close of a packet that is not heeded only releases chip select. -/
theorem packetCloses_unheeded {s : State} (p : List Byte) (h : s.heedsPacket = false) :
    packetCloses p s = released s := by
  simp [packetCloses, h]

/-- The close of a packet that is heeded: SDO was high through its bytes, and COMMAND is over (R182). -/
theorem packetCloses_heeded {s : State} (p : List Byte) (h : s.heedsPacket = true) :
    packetCloses p s =
      (drivenHigh p.length (released s)).withLp
        { (drivenHigh p.length (released s)).lp with phase := s.lp.phase.closed } := by
  simp [packetCloses, h, drivenHigh, released]

/-- Only COMMAND is over at the close of a packet: a command that executes goes on (R183). -/
theorem PortPhase.closed_of_executing {p : PortPhase} (h : p.isExecuting = true) : p.closed = p := by
  cases p <;> simp_all [PortPhase.closed, PortPhase.isExecuting]

/-- Where nothing executes the phase is IDLE once a packet has closed (R182). -/
theorem PortPhase.closed_of_idle {p : PortPhase} (h : p.isExecuting = false) : p.closed = .idle := by
  cases p <;> simp_all [PortPhase.closed, PortPhase.isExecuting]

/-- A command refused by its gate, its role or its own check answers that status. -/
theorem exec_refusedAs (c : Instr) (k roles) (s : State) (st : Status) (p : PortPath)
    (hg : commandGate c = some (k, roles)) (h : s.portPath c = some p)
    (hj : ∀ own, (s.closing c p).judge k roles own = some st) :
    exec c s = .next (finish ((s.closing c p).place p [st.code])) := by
  cases c <;> simp only [commandGate, Option.some.injEq, Prod.mk.injEq, reduceCtorEq] at hg <;>
    obtain ⟨rfl, rfl⟩ := hg <;>
    first
    | (simp only [exec, execRestart, h, hj]; done)
    | (show Host.Outcome.next _ = _; rw [portCommand_refused h (hj _)]; done)
    | (show Host.Outcome.next (minOffAtOnce s _) = _
       rw [portCommand_refused h (hj _), minOffAtOnce_of_same (by rw [finish_ps]; simp)])

/-- Placing a result makes no removal due. -/
theorem placed_not_due {u : State} (p r) (h : u.removalDue = false) : (u.place p r).removalDue = false := by
  rw [removalDue_congr (t := u) (by simp) (by simp)]; exact h

/-- Taking the packet makes no removal due. -/
theorem closing_not_due {s : State} (p : PortPath) (h : s.removalDue = false) : (s.closing c p).removalDue = false := by
  rw [removalDue_congr (t := s) (by simp) (by simp)]; exact h

/-- A started frame is no part of the transaction. -/
@[simp] theorem withTransaction_startFrame (s x : State) :
    s.withTransaction (startFrame x) = s.withTransaction x := by
  simp [State.withTransaction]

/-- A state that differs in the transaction alone, with a frame started where one may be, is kept beside the port. -/
theorem keptBeside_of {s x : State} (h : s.withTransaction x = x) : s.keptBeside (startFrame x) := by
  refine ⟨by rw [withTransaction_startFrame, h], fun hf => ?_⟩
  rw [withTransaction_startFrame, h]
  refine startFrame_of_busy ?_
  rw [← h]
  exact hf

/-- Closing the packet and placing its result touch the transaction alone. -/
theorem placed_transaction (s : State) (c : Instr) (p : PortPath) (hl : p ≠ .lost) (r : List Byte) :
    s.withTransaction ((s.closing c p).place p r) = (s.closing c p).place p r := by
  cases p with
  | lost => exact absurd rfl hl
  | executing => rfl
  | direct => rfl

/-- A refused command keeps everything beside the port. -/
theorem refused_keptBeside (s : State) (p : PortPath) (hl : p ≠ .lost) (st : Status) (h : s.removalDue = false) :
    (finish ((s.closing c p).place p [st.code])).answered st [] ∧
      s.keptBeside (finish ((s.closing c p).place p [st.code])) := by
  rw [finish_of_not_due (placed_not_due _ _ (closing_not_due _ h))]
  have := place_answered (s := s.closing c p) hl [st.code]
  exact ⟨by simp [State.answered, this], keptBeside_of (placed_transaction s c p hl _)⟩

/-- A command that is run ends in its state with its fields placed, and a frame started where one may be. -/
theorem portCommand_done_eq {c : Instr} {k roles own run} {s : State} {p : PortPath} (h : s.portPath c = some p)
    (hj : (s.closing c p).judge k roles own = none)
    (hd : ((run (s.closing c p)).1.place p (Status.done.code :: (run (s.closing c p)).2)).removalDue = false) :
    portCommand c k roles own run s =
      startFrame ((run (s.closing c p)).1.place p (Status.done.code :: (run (s.closing c p)).2)) := by
  rw [portCommand_done h hj, finish_of_not_due hd]

/-- Taking the packet changes no field that a result shows. -/
theorem closing_fields (s : State) (c : Instr) (p : PortPath) :
    (s.closing c p).configFields = s.configFields ∧ (s.closing c p).powerFields = s.powerFields ∧
      (s.closing c p).budgetFields = s.budgetFields ∧ (s.closing c p).claimsFields = s.claimsFields ∧
      (s.closing c p).fanFields = s.fanFields ∧ (s.closing c p).lanesFields = s.lanesFields ∧
      (∀ n, (s.closing c p).rosterFields n = s.rosterFields n) ∧
      (∀ n, (s.closing c p).monitorFields n = s.monitorFields n) ∧
      (s.closing c p).changesFields = s.changesFields ∧ (s.closing c p).busFields = s.busFields ∧
      (s.closing c p).senseFields = s.senseFields ∧ (s.closing c p).mailFields = s.mailFields := by
  cases p <;> refine ⟨rfl, rfl, rfl, rfl, rfl, rfl, fun _ => rfl, fun _ => rfl, rfl, rfl, rfl, rfl⟩

/-- A command that only reads answers its fields and keeps everything beside the port. -/
theorem portCommand_reads {c : Instr} {k roles own} {fields : State → List Byte} {s : State} {p : PortPath}
    (hl : p ≠ .lost) (h : s.portPath c = some p) (hj : (s.closing c p).judge k roles own = none)
    (hd : s.removalDue = false) :
    (portCommand c k roles own (fun x => (x, fields x)) s).answered .done (fields (s.closing c p)) ∧
      (portCommand c k roles own (fun x => (x, fields x)) s).lp.latched = s.lp.latched ∧
      s.keptBeside (portCommand c k roles own (fun x => (x, fields x)) s) := by
  rw [portCommand_done_eq h hj (placed_not_due _ _ (closing_not_due _ hd))]
  have := place_answered (s := s.closing c p) hl (Status.done.code :: fields (s.closing c p))
  exact ⟨by simp [State.answered, this], by simp, keptBeside_of (placed_transaction s c p hl _)⟩

/-- A command refused by its judgement answers that status and keeps everything beside the port. -/
theorem portCommand_refuses {c : Instr} {k roles own} {run} {s : State} {p : PortPath} {st : Status} (hl : p ≠ .lost)
    (h : s.portPath c = some p) (hj : (s.closing c p).judge k roles own = some st) (hd : s.removalDue = false) :
    (portCommand c k roles own run s).answered st [] ∧
      (portCommand c k roles own run s).lp.latched = s.lp.latched ∧
      s.keptBeside (portCommand c k roles own run s) := by
  rw [portCommand_refused h hj, finish_of_not_due (placed_not_due _ _ (closing_not_due _ hd))]
  have := place_answered (s := s.closing c p) hl [st.code]
  exact ⟨by simp [State.answered, this], by simp, keptBeside_of (placed_transaction s c p hl _)⟩

end Sys2Proof.Machine
end

