-- ==== Sys2Proof/Laws/Reposts.lean ====
section
/-! SUPPORT. What is to be sent is never lost from sight: an uplink's answer and a blade's release keep an entry in the
lane outbox or the notify flag of their record, through posts, freed entries and the start of a frame (R150, R164, R179). -/

namespace Sys2Proof.Machine

/-- A slot's answer is still to be sent, and stands in the lane outbox or is flagged (R150). -/
def State.answerStands (s : State) (n : Nat) : Prop :=
  (s.holder n).answer.isSome = true ∧
    ((∃ e ∈ s.bi.lanes, e.kind = .grant ∧ e.target = n) ∨ (s.holder n).notify = true)

/-- A record's release is still to be sent, and stands in the lane outbox or is flagged (R164). -/
def State.releaseStands (s : State) (u : Nat) : Prop :=
  ∃ r, slotGet s.lb u = some r ∧ r.release = true ∧
    ((∃ e ∈ s.bi.lanes, e.kind = .release ∧ e.target = u) ∨ r.notify = true)

/-! ## Reading records after writing -/

@[simp] theorem State.putHolder_holder (s : State) (n : Nat) (h : Holder) : (s.putHolder n h).holder n = h := by
  simp only [State.holder, State.putHolder]
  split
  · next e => simp [slotGet_slotDel, e]
  · simp [slotGet_slotSet]

theorem State.putHolder_holder_ne (s : State) (n m : Nat) (h : Holder) (hn : n ≠ m) :
    (s.putHolder m h).holder n = s.holder n := by
  simp only [State.holder, State.putHolder]
  split
  · rw [slotGet_slotDel_ne _ _ _ hn]
  · rw [slotGet_slotSet_ne _ _ _ _ hn]

@[simp] theorem State.pushLane_holder (s : State) (k : LaneKind) (m n : Nat) :
    (s.pushLane k m).holder n = s.holder n := rfl

theorem LaneEntry.answers_iff (e : LaneEntry) (n : Nat) : e.answers n = true ↔ e.kind = .grant ∧ e.target = n := by
  simp [LaneEntry.answers]

/-! ## Answers -/

theorem postGrant_answer (m n : Nat) (s : State) : ((postGrant m s).holder n).answer = (s.holder n).answer := by
  unfold postGrant
  by_cases hn : n = m
  · subst hn; (repeat' split) <;> simp
  · (repeat' split) <;> simp [State.putHolder_holder_ne _ _ _ _ hn]

/-- A post leaves its slot in the outbox or flagged. -/
theorem postGrant_stands (n : Nat) (s : State) (h : (s.holder n).answer.isSome = true) :
    (postGrant n s).answerStands n := by
  refine ⟨by rw [postGrant_answer]; exact h, ?_⟩
  unfold postGrant
  split
  · next hany =>
    obtain ⟨e, he, hs⟩ := List.any_eq_true.mp hany
    exact .inl ⟨e, he, (e.answers_iff n).mp hs⟩
  · split
    · exact .inl ⟨{ kind := .grant, target := n, sending := false }, by simp [State.pushLane, State.putHolder], rfl, rfl⟩
    · exact .inr (by simp)

theorem postGrant_answerStands (m n : Nat) (s : State) (h : s.answerStands n) : (postGrant m s).answerStands n := by
  by_cases hn : n = m
  · subst hn; exact postGrant_stands n s h.1
  · refine ⟨by rw [postGrant_answer]; exact h.1, ?_⟩
    unfold postGrant
    (repeat' split)
    · exact h.2
    · rw [State.putHolder_holder_ne _ _ _ _ hn]
      refine h.2.imp (fun ⟨e, he, hk⟩ => ⟨e, ?_, hk⟩) id
      simp [State.pushLane, State.putHolder, he]
    · rw [State.putHolder_holder_ne _ _ _ _ hn]
      exact h.2

theorem laneFreed_answerStands (n : Nat) (s : State) (hr : s.isRole .blade = false) (h : s.answerStands n) :
    (laneFreed s).answerStands n := by
  unfold laneFreed
  rw [hr]
  simp only [Bool.false_eq_true, if_false]
  split
  · exact h
  · exact postGrant_answerStands _ _ _ h

/-- Reposting every slot with an answer leaves each in the outbox or flagged (R179). -/
theorem repostGrants_answerStands (ms : List Nat) (n : Nat) (s : State) (ha : (s.holder n).answer.isSome = true)
    (h : n ∈ ms ∨ s.answerStands n) : (repostGrants ms s).answerStands n := by
  induction ms generalizing s with
  | nil => simpa [repostGrants] using h
  | cons m t ih =>
    simp only [repostGrants]
    apply ih
    · split
      · rw [postGrant_answer]; exact ha
      · exact ha
    · by_cases hm : n = m
      · subst hm
        rw [if_pos ha]
        exact .inr (postGrant_stands n s ha)
      · refine h.imp (fun hmem => (List.mem_cons.mp hmem).resolve_left hm) (fun hs => ?_)
        split
        · exact postGrant_answerStands _ _ _ hs
        · exact hs

/-! ## Releases -/

@[simp] theorem State.putRecord_get (s : State) (u : Nat) (r : LaneRecord) :
    slotGet (s.putRecord u r).lb u = some r := slotGet_slotSet _ _ _

theorem State.putRecord_get_ne (s : State) (u v : Nat) (r : LaneRecord) (h : u ≠ v) :
    slotGet (s.putRecord v r).lb u = slotGet s.lb u := slotGet_slotSet_ne _ _ _ _ h

/-- A post leaves its own record as it is but for the notify flag. -/
theorem postBlade_get (k : LaneKind) (v u : Nat) (r : LaneRecord) (s : State) (h : slotGet s.lb u = some r) :
    ∃ b, slotGet (postBlade k v s).lb u = some { r with notify := b } := by
  by_cases hv : u = v
  · subst hv
    simp only [postBlade, h]
    (repeat' split) <;> exact ⟨_, State.putRecord_get _ _ _⟩
  · refine ⟨r.notify, ?_⟩
    unfold postBlade
    (repeat' split) <;> simp [slotGet_slotSet_ne _ _ _ _ hv, State.pushLane, h]

/-- A post of a LANE_RELEASE leaves its record in the outbox or flagged. -/
theorem postBlade_stands (u : Nat) (r : LaneRecord) (s : State) (h : slotGet s.lb u = some r) (hr : r.release = true) :
    (postBlade .release u s).releaseStands u := by
  rw [postBlade_release u r s h]
  split
  · exact ⟨_, State.putRecord_get _ _ _, hr,
      .inl ⟨{ kind := .release, target := u, sending := false }, by simp [State.pushLane, State.putRecord], rfl, rfl⟩⟩
  · exact ⟨_, State.putRecord_get _ _ _, hr, .inr rfl⟩

theorem postBlade_releaseStands (k : LaneKind) (v u : Nat) (s : State) (h : s.releaseStands u)
    (hk : u = v → k = .release) : (postBlade k v s).releaseStands u := by
  obtain ⟨r, hg, hr, hs⟩ := h
  by_cases hv : u = v
  · subst hv
    rw [hk rfl]
    exact postBlade_stands _ _ _ hg hr
  · unfold postBlade
    (repeat' split)
    · exact ⟨r, hg, hr, hs⟩
    · exact ⟨r, by rw [State.putRecord_get_ne _ _ _ _ hv]; exact hg, hr, hs⟩
    · refine ⟨r, by rw [State.putRecord_get_ne _ _ _ _ hv]; exact hg, hr, ?_⟩
      exact hs.imp (fun ⟨e, he, hk⟩ => ⟨e, by simp [State.pushLane, State.putRecord, he], hk⟩) id
    · exact ⟨r, by rw [State.putRecord_get_ne _ _ _ _ hv]; exact hg, hr, hs⟩

/-- A blade's post touches no answer and takes no entry away. -/
theorem postBlade_answerStands (k : LaneKind) (v n : Nat) (s : State) (h : s.answerStands n) :
    (postBlade k v s).answerStands n := by
  have hh : (postBlade k v s).holder n = s.holder n := by simp [State.holder]
  refine ⟨by rw [hh]; exact h.1, ?_⟩
  rw [hh]
  refine h.2.imp (fun ⟨e, he, hk⟩ => ⟨e, ?_, hk⟩) id
  unfold postBlade
  (repeat' split) <;> simp [State.pushLane, he]

theorem repostReleases_answerStands (us : List Nat) (n : Nat) (s : State) (h : s.answerStands n) :
    (repostReleases us s).answerStands n := by
  induction us generalizing s with
  | nil => exact h
  | cons u t ih =>
    simp only [repostReleases]
    split
    · split
      · exact ih _ (postBlade_answerStands _ _ _ _ h)
      · exact ih _ h
    · exact ih _ h

theorem LaneRecord.calls_release (r : LaneRecord) (h : r.release = true) : r.calls = some .release := by
  simp [LaneRecord.calls, h]

theorem laneFreed_releaseStands (u : Nat) (s : State) (hr : s.isRole .blade = true) (h : s.releaseStands u) :
    (laneFreed s).releaseStands u := by
  unfold laneFreed
  rw [if_pos hr]
  split
  · exact h
  · next v _ =>
    split
    · exact h
    · next k hk =>
      refine postBlade_releaseStands _ _ _ _ h (fun hv => ?_)
      obtain ⟨r, hg, hm, _⟩ := h
      subst hv
      rw [hg, Option.bind_some, r.calls_release hm] at hk
      exact (Option.some.inj hk).symm

/-- Reposting every record with a release mark leaves each in the outbox or flagged (R179). -/
theorem repostReleases_releaseStands (us : List Nat) (u : Nat) (r : LaneRecord) (s : State)
    (hg : slotGet s.lb u = some r) (hr : r.release = true) (h : u ∈ us ∨ s.releaseStands u) :
    (repostReleases us s).releaseStands u := by
  induction us generalizing s r with
  | nil => simpa [repostReleases] using h
  | cons v t ih =>
    simp only [repostReleases]
    split
    · next q hq =>
      split
      · next hq1 =>
        obtain ⟨b, hb⟩ := postBlade_get .release v u r s hg
        refine ih _ _ hb hr ?_
        by_cases hv : u = v
        · subst hv; exact .inr (postBlade_stands _ _ _ hg hr)
        · exact h.imp (fun hm => (List.mem_cons.mp hm).resolve_left hv)
            (fun hs => postBlade_releaseStands _ _ _ _ hs (fun e => absurd e hv))
      · next hq1 =>
        refine ih _ _ hg hr (h.imp (fun hm => (List.mem_cons.mp hm).resolve_left fun e => ?_) id)
        subst e
        rw [hg] at hq
        exact hq1 ((Option.some.inj hq) ▸ hr)
    · next hq =>
      refine ih _ _ hg hr (h.imp (fun hm => (List.mem_cons.mp hm).resolve_left fun e => ?_) id)
      subst e
      rw [hg] at hq
      exact absurd hq (by simp)

/-! ## The start of a frame -/

/-- Dropping the first pending entry of a kind loses no entry of another kind or target. -/
theorem mem_dropLaneEntry (k : LaneKind) (es : List LaneEntry) (e : LaneEntry) (he : e ∈ es)
    (h : e.kind ≠ k ∨ e.target ≠ laneTarget k es) :
    e ∈ dropLaneEntry (fun x => x.kind == k && !x.sending) es := by
  induction es with
  | nil => exact he
  | cons x t ih =>
    rcases List.mem_cons.mp he with rfl | ht
    · simp only [dropLaneEntry, laneTarget] at h ⊢
      split
      · next hx =>
        have hx' : (e.kind = k ∧ (!e.sending) = true) := by simpa using hx
        rw [if_pos (by simpa using hx)] at h
        exact absurd hx'.1 (h.resolve_right (fun hn => hn rfl))
      · exact List.mem_cons_self
    · simp only [dropLaneEntry, laneTarget] at h ⊢
      split
      · exact ht
      · next hx =>
        rw [if_neg (by simpa using hx)] at h
        exact List.mem_cons_of_mem _ (ih ht h)

/-- Marking an entry as SENDING keeps every kind and target. -/
theorem mem_changeLaneEntry (f : LaneEntry → Bool) (es : List LaneEntry) (k : LaneKind) (n : Nat)
    (h : ∃ e ∈ es, e.kind = k ∧ e.target = n) :
    ∃ e ∈ changeLaneEntry f (fun e => { e with sending := true }) es, e.kind = k ∧ e.target = n := by
  induction es with
  | nil => exact h
  | cons x t ih =>
    obtain ⟨e, he, hk⟩ := h
    simp only [changeLaneEntry]
    split
    · rcases List.mem_cons.mp he with rfl | ht
      · exact ⟨_, List.mem_cons_self, hk⟩
      · exact ⟨e, List.mem_cons_of_mem _ ht, hk⟩
    · rcases List.mem_cons.mp he with rfl | ht
      · exact ⟨_, List.mem_cons_self, hk⟩
      · obtain ⟨y, hy, hy'⟩ := ih ⟨e, ht, hk⟩
        exact ⟨y, List.mem_cons_of_mem _ hy, hy'⟩

theorem State.emptyChoice_answerStands (n : Nat) (c : Choice) (s : State) (hr : s.isRole .blade = false)
    (hc : s.content c = none) (h : s.answerStands n) : (s.emptyChoice c).answerStands n := by
  cases c with
  | own k => exact h
  | mail => exact h
  | lane k =>
    refine laneFreed_answerStands n _ hr ⟨h.1, h.2.imp (fun ⟨e, he, hk, ht⟩ => ⟨e, ?_, hk, ht⟩) id⟩
    refine mem_dropLaneEntry k _ e he ?_
    by_cases hkk : e.kind = k
    · refine .inr (fun htt => ?_)
      have hkg : k = .grant := hkk.symm.trans hk
      subst hkg
      have := h.1
      simp only [State.content, State.laneContent, ← htt, ht, Option.map_eq_none_iff] at hc
      rw [hc] at this
      exact absurd this (by simp)
    · exact .inl hkk

theorem State.beginTx_answerStands (n : Nat) (c : Choice) (p : List Byte) (s : State) (h : s.answerStands n) :
    (s.beginTx c p).answerStands n := by
  cases c with
  | own k => exact h
  | mail =>
    simp only [State.beginTx]
    split
    · exact h
    · simpa [State.answerStands, State.holder] using h
  | lane k =>
    have h2 := h.2.imp_left (mem_changeLaneEntry (fun e => e.kind == k && !e.sending) s.bi.lanes .grant n)
    simp only [State.beginTx]
    split
    · by_cases hn : n = laneTarget k s.bi.lanes
      · refine ⟨?_, h2.imp (fun hx => ?_) (fun hx => ?_)⟩
        · rw [← hn, State.putHolder_holder]; exact h.1
        · simpa [State.putHolder] using hx
        · rw [← hn, State.putHolder_holder]; exact hx
      · refine ⟨?_, h2.imp (fun hx => ?_) (fun hx => ?_)⟩
        · rw [State.putHolder_holder_ne _ _ _ _ hn]; exact h.1
        · simpa [State.putHolder] using hx
        · rw [State.putHolder_holder_ne _ _ _ _ hn]; exact hx
    · exact ⟨h.1, h2⟩

@[simp] theorem State.emptyChoice_isRole (s : State) (c : Choice) (r : Role) :
    (s.emptyChoice c).isRole r = s.isRole r := by
  cases c <;> simp [State.emptyChoice, State.isRole, State.role, State.putKind]

/-- The start of a frame loses no answer from the outbox and the flags (R30, R150). -/
theorem startLoop_answerStands (k n : Nat) (s : State) (hr : s.isRole .blade = false) (h : s.answerStands n) :
    (startLoop k s).answerStands n := by
  induction k generalizing s with
  | zero => exact h
  | succ k ih =>
    simp only [startLoop]
    split
    · exact h
    · split
      · exact State.beginTx_answerStands _ _ _ _ h
      · next hc => exact ih _ (by simpa using hr) (State.emptyChoice_answerStands _ _ _ hr hc h)

theorem startFrame_answerStands (n : Nat) (s : State) (hr : s.isRole .blade = false) (h : s.answerStands n) :
    (startFrame s).answerStands n := by
  unfold startFrame
  split
  · exact startLoop_answerStands _ _ _ hr h
  · exact h

theorem State.emptyChoice_releaseStands (u : Nat) (c : Choice) (s : State) (hr : s.isRole .blade = true)
    (hc : s.content c = none) (h : s.releaseStands u) : (s.emptyChoice c).releaseStands u := by
  cases c with
  | own k => exact h
  | mail => exact h
  | lane k =>
    obtain ⟨r, hg, hm, hs⟩ := h
    refine laneFreed_releaseStands u _ hr ⟨r, hg, hm, hs.imp (fun ⟨e, he, hk, ht⟩ => ⟨e, ?_, hk, ht⟩) id⟩
    refine mem_dropLaneEntry k _ e he ?_
    by_cases hkk : e.kind = k
    · refine .inr (fun htt => ?_)
      have hkg : k = .release := hkk.symm.trans hk
      subst hkg
      simp [State.content, State.laneContent, ← htt, ht, hg, hm] at hc
    · exact .inl hkk

theorem State.beginTx_releaseStands (u : Nat) (c : Choice) (p : List Byte) (s : State) (h : s.releaseStands u) :
    (s.beginTx c p).releaseStands u := by
  obtain ⟨r, hg, hm, hs⟩ := h
  cases c with
  | own k => exact ⟨r, hg, hm, hs⟩
  | mail =>
    simp only [State.beginTx]
    split
    · exact ⟨r, hg, hm, hs⟩
    · exact ⟨r, by simpa using hg, hm, by simpa using hs⟩
  | lane k =>
    have h2 := hs.imp_left (mem_changeLaneEntry (fun e => e.kind == k && !e.sending) s.bi.lanes .release u)
    simp only [State.beginTx]
    split
    · exact ⟨r, by simpa using hg, hm, by simpa [State.putHolder] using h2⟩
    · exact ⟨r, hg, hm, h2⟩

/-- The start of a frame loses no release from the outbox and the flags (R30, R164). -/
theorem startLoop_releaseStands (k u : Nat) (s : State) (hr : s.isRole .blade = true) (h : s.releaseStands u) :
    (startLoop k s).releaseStands u := by
  induction k generalizing s with
  | zero => exact h
  | succ k ih =>
    simp only [startLoop]
    split
    · exact h
    · split
      · exact State.beginTx_releaseStands _ _ _ _ h
      · next hc => exact ih _ (by simpa using hr) (State.emptyChoice_releaseStands _ _ _ hr hc h)

theorem startFrame_releaseStands (u : Nat) (s : State) (hr : s.isRole .blade = true) (h : s.releaseStands u) :
    (startFrame s).releaseStands u := by
  unfold startFrame
  split
  · exact startLoop_releaseStands _ _ _ hr h
  · exact h

end Sys2Proof.Machine
end

