-- ==== Sys2Proof/Laws/Trials.lean ====
section
/-! SUPPORT. What the terms of the statements say, once: a heard frame, an accepted command, and the station with its own
claim or the claim of another slot written (`claimedAt`, `claimedBy`). -/

namespace Sys2Proof.Machine

/-- A frame is heard exactly where the receiver takes it, the life state delivers it and the source is another slot. -/
theorem State.hears_iff (s : State) (src : BitVec 6) :
    s.hears src = true ↔
      s.receives = true ∧ s.delivers = true ∧ src.toNat < Config.slots ∧ src.toNat ≠ s.ownSlot := by
  simp [State.hears, and_assoc]

/-- An accepted command comes to its block and passes its gate and its role. -/
theorem State.accepts_iff {s : State} {c : Instr} {k : PortClass} {roles : Role → Bool}
    (h : commandGate c = some (k, roles)) :
    s.accepts c = true ↔ s.reaches c = true ∧ s.gate k = true ∧ s.roleIn roles = true := by
  simp [State.accepts, h]

/-- Writing the own claim leaves everything but the budget and the port as it was. -/
@[simp] theorem State.claimedAt_frame (s : State) (n : Nat) (l : Level) :
    (s.claimedAt n l).now = s.now ∧ (s.claimedAt n l).pins = s.pins ∧ (s.claimedAt n l).lc = s.lc ∧
      (s.claimedAt n l).bi = s.bi ∧ (s.claimedAt n l).ro = s.ro ∧ (s.claimedAt n l).ps = s.ps ∧
      (s.claimedAt n l).sm = s.sm ∧ (s.claimedAt n l).lm = s.lm := by
  simp [State.claimedAt]

/-- The own claim then reads as it was written, its mark aside (R82). -/
theorem State.claimedAt_ownClaim (s : State) (n : Nat) (l : Level) :
    (s.claimedAt n l).ownClaim.map Claim.plain = some { s.claimWith n with level := l } := by
  have ho : (s.claimedAt n l).ownSlot = s.ownSlot := by simp [State.ownSlot]
  unfold State.ownClaim
  rw [ho]
  exact setClaim_claimOf { s.claimWith n with level := l } s

/-- Taking another slot's claim leaves the power record, the lanes and the life cycle as they were. -/
@[simp] theorem State.claimedBy_frame (s : State) (slot : Nat) (e : RosterEntry) (c : ClaimPart) :
    (s.claimedBy slot e c).now = s.now ∧ (s.claimedBy slot e c).pins = s.pins ∧ (s.claimedBy slot e c).lc = s.lc ∧
      (s.claimedBy slot e c).ps = s.ps ∧ (s.claimedBy slot e c).sm = s.sm ∧ (s.claimedBy slot e c).lm = s.lm := by
  simp [State.claimedBy, State.putEntry]

/-- A switch-off leaves PWR_EN low, since the moment of it (R94). -/
theorem State.switchedOff_down {s t : State} {moment : Nat} {cause : ShedCause} (h : s.switchedOff t moment cause) :
    t.ps.power.energised = false ∧ t.ps.fellAt = some moment := ⟨h.1, h.2.2.1⟩

end Sys2Proof.Machine
end

