-- ==== Sys2Proof/Tests/Slice0.lean ====
section
/-! SUPPORT. Small tests: the ill-formed terms WellFormed refuses, worked cases of the spec, single commands on small
states, and for every statement a state and operands that meet its hypotheses. -/

namespace Sys2Proof.Tests

open Sys2Proof Sys2Proof.Machine

/-! ## States to start from -/

/-- A station of a role in slot 5 at 250 kbit/s, in a life state. -/
def station (r : Role) (l : Life) : State :=
  { State.reset with
    now := 1000
    pins := { Pins.reset with seated := true }
    lc := {
      life := some l
      straps := some {
        role := r
        rate := .k250
        attended := true
        capCode := if r = .power then some 9 else none
        feed := if r = .power then some .a else none
        slot := 5 } }
    bi := { rate := some .k250, synced := true, txState := if l = .active then .enabled else .off } }

/-- A consumer in ACTIVE with a power record. -/
def consumerWith (r : Role) (x : Sequencer) : State := { station r .active with ps := x }

/-- The own claim as a blade writes it. -/
def own (amount : Nat) (level : Level) (admitted : Bool) : Claim :=
  { slot := 5, cls := .ranked, priority := 4, amount := amount, floor := 20, level := level, admitted := admitted }

/-- A station that holds an own claim. -/
def holding (c : Claim) (s : State) : State := { s with bu := { s.bu with claims := [c] } }

/-- A station that has heard a station in slot 3. -/
def hearing (e : RosterEntry) (s : State) : State := { s with ro := { s.ro with entries := [(3, e)] } }

/-- The state a command leaves. -/
def after (c : Instr) (s : State) : State :=
  match exec c s with
  | .next t => t
  | .fault _ | .refused _ => s

/-- Straps of a role in slot 5 with odd parity. -/
def strapsOf (role : BitVec 2) : StrapPins :=
  { role := role, rate := 1, attended := true, cap := 9, feed := false, ga := 5, gap := true }

/-! ## WellFormed refuses -/

theorem test_illFormed_events :
    (Instr.tachEdge 4 0).wellFormed = false ∧ (Instr.rateMeasurement 4096).wellFormed = false ∧
      (Instr.frameError []).wellFormed = false ∧ (Instr.laneDrainEnd 16).wellFormed = false ∧
      (Instr.replyWindowEnd 48).wellFormed = false ∧ (Instr.packetTaken [99]).wellFormed = false ∧
      (Instr.commandInvalid [1] false).wellFormed = false ∧ (Instr.commandInvalid [] true).wellFormed = false := by
  decide

theorem test_illFormed_frames :
    (Instr.claimReceived 3 [0]).wellFormed = false ∧ (Instr.claimReceived 48 [0, 0, 0, 0, 0]).wellFormed = false ∧
      (Instr.releaseReceived 3 [0]).wellFormed = false ∧ (Instr.capacityReceived 3 []).wellFormed = false ∧
      (Instr.fanstatReceived 3 []).wellFormed = false ∧ (Instr.laneGrantReceived 3 []).wellFormed = false ∧
      (Instr.laneRequestReceived 3 []).wellFormed = false ∧ (Instr.laneReleaseReceived 3 []).wellFormed = false ∧
      (Instr.thermalReceived 3 []).wellFormed = false ∧ (Instr.announceReceived 3 []).wellFormed = false ∧
      (Instr.joinReceived 3 []).wellFormed = false ∧ (Instr.leaveReceived 3 [0]).wellFormed = false ∧
      (Instr.mailReceived 3 []).wellFormed = false ∧
      (Instr.unknownKindReceived 0 3 (List.replicate 13 0)).wellFormed = false ∧
      (Instr.strangerSlotFrame 0 0 []).wellFormed = false ∧
      (Instr.strangerSlotFrame 12 0 (List.replicate 13 0)).wellFormed = false := by
  decide

theorem test_illFormed_commands :
    (Instr.configure .nA 0 256).wellFormed = false ∧ (Instr.configure .nA 1 49).wellFormed = false ∧
      (Instr.sendMail 3 0 (List.replicate 12 0)).wellFormed = false := by
  decide

theorem test_wellFormed_boundary :
    (Instr.tachEdge 3 0).wellFormed = true ∧ (Instr.rateMeasurement 4095).wellFormed = true ∧
      (Instr.laneDrainEnd 15).wellFormed = true ∧ (Instr.replyWindowEnd 47).wellFormed = true ∧
      (Instr.claimReceived 47 [0, 0, 0, 0, 0]).wellFormed = true ∧ (Instr.configure .nA 0 255).wellFormed = true ∧
      (Instr.configure .demandSpan 3 40).wellFormed = true ∧
      (Instr.sendMail 3 0 (List.replicate 11 0)).wellFormed = true := by
  decide

/-- No row of the table gives bits, so no word spells a command. -/
theorem test_decodeTableWord : decodeTableWord 16 1 = none := by decide

/-! ## Worked cases of the spec -/

/-- The worked case under R70. -/
def workedEntries : List RosterEntry :=
  [{ role := .power, supply := some { capacity := 300, state := .good, feed := .a } },
   { role := .power, supply := some { capacity := 300, state := .good, feed := .b } },
   { role := .power, supply := some { capacity := 250, state := .good, feed := .a } },
   { role := .fan, fan := some { fitted := 4, failed := 0, duty := 50, sustained := false } },
   { role := .fan, fan := some { fitted := 4, failed := 1, duty := 50, sustained := false } }]

theorem test_stages_workedCase :
    (computeStages { expectedFans := 2 } workedEntries).cEff = 502 ∧
      (computeStages { expectedFans := 2 } (workedEntries.take 4)).cEff = 420 ∧
      (computeStages { expectedFans := 2, redundancy := .halfFeeds } workedEntries).cEff = 265 := by
  decide

/-- The worked case under R72, seven claims in rank order. -/
def workedClaims : List Claim :=
  [35, 35, 50, 120, 150, 100, 90].zipIdx.map fun p =>
    { slot := p.2, cls := .ranked, priority := 0, amount := p.1, floor := 0, level := .full, admitted := false }

theorem test_prefix_workedCase :
    admittedCount (markClaims 502 0 true workedClaims) = 6 ∧ admittedSum (markClaims 502 0 true workedClaims) = 490 ∧
      admittedCount (markClaims 265 0 true workedClaims) = 4 ∧
      admittedSum (markClaims 265 0 true workedClaims) = 240 := by
  decide

/-- The worked cases under R19. -/
theorem test_rateLock_workedCases :
    lockRate 612 = some .k250 ∧ lockRate 640 = none ∧ lockRate 148 = some .k1000 ∧ lockRate 1240 = none ∧
      lockRate 1236 = some .k125 ∧ lockRate 291 = some .k500 := by
  decide

/-- The bits of a whole frame are read back as the frame. -/
theorem test_frame_roundTrip :
    classify (Frame.lineBits { kind := 1, src := 22, payload := [] }) = .good { kind := 1, src := 22, payload := [] } := by
  decide +kernel

/-! ## States and operands that meet the hypotheses of the statements -/

/-- The machine before a step that carries out one command. -/
def waitingFor (c : Instr) (s : State) : State := { s with pending := [c] }

theorem witness_StepRunsFrontCommand : ∃ (c : Instr) (rest : List Instr) (s : State), s.pending = c :: rest :=
  ⟨.sense, [.go], { State.reset with pending := [.sense, .go] }, rfl⟩

theorem witness_EveryStepAnswersNext : ∃ s : State, s.pending = [] := ⟨State.reset, rfl⟩

/-- A state that meets the premises of every invariant, and a step from it. -/
theorem witness_invariants :
    ∃ s t : State, step s = .next t ∧ s.sound = true ∧ s.transmitterFits = true ∧ s.phaseFits = true ∧
      s.removalDue = false ∧ s.budgetFresh = true ∧ s.claimsFollowRoster ∧ s.dutyCovers :=
  ⟨waitingFor (.seatedAsserted (strapsOf 0)) State.reset, _, rfl, by decide, by decide, by decide, by decide,
    by decide, ⟨fun _ _ => rfl, by decide⟩, by decide, by decide, by decide⟩

/-- An ENABLED station in ACTIVE starts a frame. -/
theorem witness_FramesStartOnlyWhereAllowed_active :
    ∃ (s t : State) (x : Tx), step s = .next t ∧ s.bi.tx = none ∧ t.bi.tx = some x ∧ t.inLife .active = true :=
  ⟨waitingFor (.busIdle false)
      { station .blade .active with bi := { rate := some .k250, txState := .enabled, kinds := { join := .pending .retry } } },
    _, _, rfl, rfl, rfl, rfl⟩

/-- In REMOVABLE the LEAVE starts. -/
theorem witness_FramesStartOnlyWhereAllowed_removable :
    ∃ (s t : State) (x : Tx), step s = .next t ∧ s.bi.tx = none ∧ t.bi.tx = some x ∧ t.inLife .removable = true :=
  ⟨waitingFor (.busIdle false)
      { station .blade .removable with bi := { rate := some .k250, kinds := { leave := .pending .retry } } },
    _, _, rfl, rfl, rfl, rfl⟩

/-- In the wait of a restart the LEAVE starts. -/
theorem witness_FramesStartOnlyWhereAllowed_waiting :
    ∃ (s t : State) (x : Tx), step s = .next t ∧ s.bi.tx = none ∧ t.bi.tx = some x ∧ t.waiting = true :=
  ⟨waitingFor (.busIdle false)
      { station .blade .active with
        lc := { (station .blade .active).lc with restartWait := .running 9000 }
        bi := { rate := some .k250, txState := .enabled, kinds := { leave := .pending .single } } },
    _, _, rfl, rfl, rfl, rfl⟩

/-- A supply of a capacity, on feed A. -/
def supplyOf (capacity : Nat) : RosterEntry :=
  { role := .power, supply := some { capacity := capacity, state := .good, feed := .a } }

/-- A station that has heard a blade in slot 3 and a supply in slot 40, and that holds an own claim: the budget recomputed. -/
def budgeted (capacity : Nat) (c : Claim) (s : State) : State :=
  recompute { s with
    ro := { s.ro with entries := [(3, { role := .blade, power := some .on }), (40, supplyOf capacity)] }
    bu := { s.bu with claims := [c] } }

/-- The one claim in a table is found at its slot alone. -/
theorem claimOf_one (c : Claim) (n : Nat) : claimOf [c] n = if c.slot = n then some c else none := rfl

/-- The two entries of `budgeted`. -/
theorem slotGet_two (a b : Nat) (x y : RosterEntry) (n : Nat) :
    slotGet [(a, x), (b, y)] n = if a = n then some x else if b = n then some y else none := by
  simp only [slotGet]

/-- A blade that is ON with its claim admitted. -/
def bladeOn : State :=
  budgeted 250 (own 40 .full true) (consumerWith .blade { power := .on, working := 40, roseAt := some 0 })

/-- Its claim table holds the own claim alone, as its roster has it. -/
theorem bladeOn_follows : bladeOn.claimsFollowRoster := by
  refine ⟨fun n h => ?_, by decide⟩
  have hc : bladeOn.bu.claims = [own 40 .full true] := by decide
  have he : bladeOn.ro.entries = [(3, { role := .blade, power := some .on }), (40, supplyOf 250)] := rfl
  have h5 : (own 40 .full true).slot ≠ n := fun h5 => h h5.symm
  rw [hc, he, claimOf_one, slotGet_two, if_neg h5]
  by_cases h3 : 3 = n <;> by_cases h40 : 40 = n <;> simp [h3, h40, supplyOf]

/-- The law of power speaks of energised consumers. -/
theorem witness_EnergisedClaimIsAdmitted :
    bladeOn.consumer = true ∧ bladeOn.pwrEn = true ∧ bladeOn.ps.power.energised = true ∧ bladeOn.powerLawful ∧
      ∃ t, step { bladeOn with pending := [.agingVisit] } = .next t :=
  ⟨by decide, by decide, by decide,
    ⟨fun _ => by decide, by decide, by decide, bladeOn_follows, ⟨by decide, by decide⟩, fun _ =>
      ⟨⟨by decide, by decide, by decide, by decide⟩,
        ⟨by decide, by decide, fun n h => Raise.noConfusion (show Raise.noRaise = .amount n from h), by decide,
          by decide, by decide⟩, by decide, by decide⟩⟩, _, rfl⟩

/-- An uplink that is ON with two lanes of the blade in slot 3 and its claim admitted. -/
def uplinkOn : State :=
  { bladeOn with
    lc := { bladeOn.lc with straps := bladeOn.lc.straps.map (fun x => { x with role := .uplink }) }
    lm := { lanes := [(0, .granted 3), (15, .granted 3)] } }

/-- Its lanes in use are the blade's, whose slot is PRESENT. -/
theorem uplinkOn_lanes : ∀ p ∈ uplinkOn.lm.lanes, ∀ n, p.2.slot? = some n →
    (slotGet uplinkOn.ro.entries n).isSome = true ∧ lanesOf uplinkOn.lm.lanes n ≤ Config.lanesPerSlot := by
  intro p hp n hn
  have h : p = (0, .granted 3) ∨ p = (15, .granted 3) := by simpa [uplinkOn] using hp
  rcases h with rfl | rfl <;> (cases hn; decide)

/-- It holds no RESERVED lane. -/
theorem uplinkOn_granted : ∀ p ∈ uplinkOn.lm.lanes, ∀ n, p.2 = .reserved n → uplinkOn.isReserving n = true := by
  intro p hp n hn
  have h : p = (0, .granted 3) ∨ p = (15, .granted 3) := by simpa [uplinkOn] using hp
  rcases h with rfl | rfl <;> cases hn

/-- The law of lanes speaks of lanes in use. -/
theorem witness_LanesBelongToPresentSlots :
    uplinkOn.isRole .uplink = true ∧ lanesInUse uplinkOn.lm.lanes = 2 ∧ uplinkOn.lanesKept ∧
      ∃ t, step { uplinkOn with pending := [.agingVisit] } = .next t :=
  ⟨by decide, by decide,
    ⟨fun _ => ⟨fun p hp n hn => uplinkOn_lanes p hp n hn, by decide, fun r h => (nomatch h),
        fun _ => ⟨own 40 .full true, by decide⟩⟩,
      ⟨fun _ => by decide, by decide, by decide, ⟨bladeOn_follows.1, by decide⟩, ⟨by decide, by decide⟩, fun _ =>
        ⟨⟨by decide, by decide, by decide, by decide⟩,
          ⟨by decide, by decide, fun n h => Raise.noConfusion (show Raise.noRaise = .amount n from h), by decide,
            by decide, by decide⟩, by decide, by decide⟩⟩,
      by decide, by decide, fun _ => ⟨fun r h => (nomatch h), fun p hp n hn => uplinkOn_granted p hp n hn⟩⟩, _, rfl⟩

theorem witness_PacketDecodesToItsCommand :
    (Instr.wellFormed .sense = true ∧ encodePacket .sense = some [1]) ∧
      (Instr.wellFormed (.configure .demandSpan 3 40) = true ∧
        encodePacket (.configure .demandSpan 3 40) = some [3, 34, 3, 40]) ∧
      (Instr.wellFormed (.sendMail 63 1 [7]) = true ∧ encodePacket (.sendMail 63 1 [7]) = some [24, 63, 1, 7]) := by
  decide

theorem witness_FrameOnTheLineIsReceived :
    ∃ f : Frame, lengthFits f.kind f.payload.length = true ∧ f.payload.length = 12 :=
  ⟨{ kind := 9, src := 5, payload := List.replicate 12 0xFF }, by decide⟩

/-! ### Life cycle -/

theorem witness_StandbyPowerAndSeated :
    (∃ s : State, s.pins.standby = true ∧ s.lc.life = none) ∧
      (∃ s : State, s.pins.standby = false ∧ s.pins.seated = true) ∧
      (∃ s : State, s.pins.seated = true ∧ s.lc.life ≠ none ∧ s.inLife .active = false) ∧
      (∃ s : State, s.pins.seated = true ∧ s.lc.life ≠ none ∧ s.lc.restartWait.isRunning = true) ∧
      (∃ (s : State) (due : Nat), s.lc.unseatedWait = .running due) ∧
      (∃ (s : State) (due : Nat) (p : List Byte), s.lc.restartWait = .running due ∧ s.lp.phase = .executing p) ∧
      (∃ s : State, s.pins.standby = true ∧ s.pins.chipSelect = true) :=
  ⟨⟨State.reset, by decide⟩, ⟨{ State.reset with pins := { Pins.reset with standby := false, seated := true } }, by decide⟩,
    ⟨station .blade .ready, by decide⟩,
    ⟨{ station .blade .active with lc := { life := some .active, restartWait := .running 5 } }, by decide⟩,
    ⟨{ State.reset with lc := { life := some .active, unseatedWait := .running 5 } }, 5, by decide⟩,
    ⟨{ State.reset with lc := { life := some .active, restartWait := .running 5 }, lp := { phase := .executing [6] } }, 5,
      [6], by decide⟩,
    ⟨after .chipSelectAsserted State.reset, by decide⟩⟩

theorem witness_SeatedLossInActive :
    ∀ r : Role, r ∈ [Role.blade, .fan, .power, .uplink] →
      (station r .active).pins.seated = true ∧ (station r .active).inLife .active = true ∧
        (station r .active).waiting = false ∧ (station r .active).bi.txState ≠ .mute := by
  decide

/-- A good geography, one of even parity and one of slot 48 with odd parity. -/
theorem witness_SettleEndReadsStraps :
    (∃ (s : State) (due : Nat), s.inLife .start = true ∧ s.lc.settle = .running due ∧ s.ps.power = .off) ∧
      (geographyHigh (strapsOf 2) % 2 = 1 ∧ (strapsOf 2).ga.toNat < 48) ∧
      geographyHigh { strapsOf 2 with gap := false } % 2 = 0 ∧
      (geographyHigh { strapsOf 2 with ga := 48 } % 2 = 1 ∧ (48 : BitVec 6).toNat = 48) :=
  ⟨⟨after (.seatedAsserted (strapsOf 0)) State.reset, 500000, by decide⟩, by decide, by decide, by decide⟩

theorem witness_ListenWindowEnds :
    ∃ (s : State) (x : Straps) (due : Nat), s.inLife .listen = true ∧ s.lc.listenWindow = .running due ∧
      s.lc.straps = some x ∧ s.lc.phase = .noRemoval ∧ s.bi.rate = none ∧ s.pins.resetAsserted = false :=
  ⟨after (.settleEnd (strapsOf 0)) (after (.seatedAsserted (strapsOf 0)) State.reset), readStraps (strapsOf 0), 50500000,
    by decide⟩

theorem witness_GoEntersActive :
    (∃ s : State, s.accepts .go = true ∧ s.inLife .listen = true) ∧
      ∃ s : State, s.accepts .go = true ∧ s.inLife .ready = true ∧ s.lc.phase = .noRemoval ∧ s.bi.idle = false ∧
        s.waiting = false :=
  ⟨⟨station .blade .listen, by decide⟩, ⟨station .blade .ready, by decide⟩⟩

/-- A blade that is not attended. -/
def unattended (l : Life) : State :=
  { station .blade l with
    lc := { life := some l, straps := some { readStraps (strapsOf 0) with attended := false }, listenWindow := .running 9 } }

/-- The mask at GO and at the end of the listen window, of an unattended station and of an attended one. -/
theorem witness_GoEntersActive_mask :
    ((unattended .ready).accepts .go = true ∧ (unattended .ready).inLife .ready = true ∧
        (unattended .ready).lc.phase = .noRemoval ∧ (unattended .ready).lc.straps.isSome = true) ∧
      (unattended .listen).lc.listenWindow = .running 9 ∧
      ((after .go (unattended .ready)).lp.mask = 0x3FFF ∧ (after .listenWindowEnd (unattended .listen)).lp.mask = 0x3FFF) ∧
      (after .go (station .blade .ready)).lp.mask = 0 := by
  decide

/-- A station in REMOVABLE_ACTIVE with kind entries, its handle closing again. -/
def removed (r : Role) (k : KindEntries) : State :=
  { station r .removable with
    lc := { (station r .removable).lc with
      phase := .removableActive, leaveOutcome := .pending, handle := .opened, debounce := .running 1250000 }
    bi := { rate := some .k250, synced := true, kinds := k, identityCount := 3 } }

theorem witness_RestartTaken :
    (∀ l ∈ [Life.listen, .ready, .halted, .clash],
      (station .blade l).accepts .restart = true ∧ (station .blade l).activeOrRemovable = false) ∧
      (∃ s : State, s.accepts .restart = true ∧ s.inLife .active = true ∧ s.bi.txState = .mute ∧
        s.consumer = true ∧ s.ps.power = .off) ∧
      (∃ s : State, s.accepts .restart = true ∧ s.inLife .active = true ∧ s.bi.txState ≠ .mute ∧
        s.consumer = true ∧ s.ps.power = .fault ∧ s.lc.phase = .noRemoval) ∧
      (∃ s : State, s.accepts .restart = true ∧ s.inLife .removable = true ∧ s.bi.kinds.leave = .empty) ∧
      ∃ s : State, s.accepts .restart = true ∧ s.inLife .removable = true ∧ s.bi.kinds.leave ≠ .empty :=
  ⟨by decide,
    ⟨{ station .blade .active with bi := { rate := some .k250, txState := .mute, mute := .running 9000 } }, by decide⟩,
    ⟨consumerWith .blade { power := .fault }, by decide⟩,
    ⟨removed .blade {}, by decide⟩, ⟨removed .fan { leave := .pending .retry }, by decide⟩⟩

/-- A PRESENT own slot number as source of a good frame reaches every role in the three life states that deliver frames. -/
theorem witness_ClashStopsTheStation :
    (∀ r ∈ [Role.blade, .fan, .power, .uplink], ∀ l ∈ [Life.listen, .ready, .active],
      (station r l).receives = true ∧ (station r l).delivers = true ∧ (station r l).waiting = false ∧
        (5 : BitVec 6).toNat = (station r l).ownSlot ∧ (station r l).pins.resetAsserted = false) ∧
      (station .blade .active).ownSlot < 48 ∧
      (removed .blade {}).delivers = true ∧ lengthFits 1 0 = true ∧ lengthFits 11 1 = true ∧ lengthFits 11 12 = true ∧
      lengthFits 12 0 = true ∧ lengthFits 15 12 = true ∧
      (after (.releaseReceived 5 []) bladeOn).inLife .clash = true := by
  decide

/-- Frames of the widest MAIL and of the lowest and highest unknown kind, from the highest slot as the own one. -/
theorem test_clashOfEveryKind :
    let s : State := { bladeOn with lc := { bladeOn.lc with straps := bladeOn.lc.straps.map ({ · with slot := 47 }) } }
    s.ownSlot = 47 ∧ s.receives = true ∧
      (after (.mailReceived 47 (List.replicate 12 0)) s).inLife .clash = true ∧
      ∀ low ∈ [(0 : BitVec 2), 3],
        (after (.unknownKindReceived low 47 []) s).inLife .clash = true ∧
          (after (.unknownKindReceived low 47 []) s).bi.stats.unknownKinds = 1 ∧
          (after (.unknownKindReceived low 47 []) s).bi.stats.strangers = 0 := by
  decide

/-- A station whose handle has moved and whose debounce timer runs. -/
def moved (opening : Bool) (phase : RemovalPhase) (s : State) : State :=
  { s with
    pins := { s.pins with handleOpen := opening }
    lc := { s.lc with
      handle := if opening then .closed else .opened
      debounce := .running 1250000
      phase := phase } }

/-- A supply whose output is high and whose drain runs out at 9000, in a removal. -/
def draining : State :=
  let s := moved true .poweringDown { station .power .active with sup := { output := true, drain := .running 9000 } }
  { s with bi := { s.bi with idle := true } }

/-- A supply that takes a RESTART while its drain runs, in ACTIVE and in REMOVABLE. -/
theorem witness_RestartTaken_drain :
    (draining.accepts .restart = true ∧ draining.inLife .active = true ∧ draining.bi.txState ≠ .mute ∧
        draining.consumer = false ∧ draining.pwrEn = true) ∧
      ∃ s : State, s.accepts .restart = true ∧ s.inLife .removable = true ∧ s.bi.kinds.leave ≠ .empty ∧
        s.consumer = false ∧ s.sup.drain = .running 9000 :=
  ⟨by decide,
    ⟨{ removed .power { leave := .pending .retry } with sup := { output := true, drain := .running 9000 } }, by decide⟩⟩

/-- A RESTART abandons the drain (R114): the moment it was to end at takes PWR_EN nowhere and completes no removal. -/
theorem test_restartAbandonsDrain :
    (after .restart draining).sup.drain = .stopped 0 ∧ (after .restart draining).pwrEn = true ∧
      (after .drainEnd (after .restart draining)).pwrEn = true ∧
      (after .drainEnd (after .restart draining)).inLife .active = true ∧
      (after .drainEnd draining).pwrEn = false ∧ (after .drainEnd draining).inLife .removable = true := by
  decide

theorem witness_HandleIsDebounced :
    ((station .blade .listen).pins.handleOpen = !true ∧ (station .blade .listen).lc.life ≠ none ∧
        (station .blade .listen).inLife .start = false) ∧
      (∃ s : State, s.lc.debounce.isRunning = true ∧ s.lc.handle = .closed ∧ s.pins.handleOpen = true ∧
        s.pins.resetAsserted = false) ∧
      (∃ s : State, s.lc.debounce.isRunning = true ∧ s.lc.handle = .opened ∧ s.pins.handleOpen = false ∧
        s.pins.resetAsserted = false ∧ s.inLife .removable = false) :=
  ⟨by decide, ⟨moved true .noRemoval (station .blade .active), by decide⟩,
    ⟨moved false .grace (station .blade .active), by decide⟩⟩

theorem witness_OpeningStartsRemoval :
    (∃ s : State, s.lc.debounce.isRunning = true ∧ s.lc.handle = .closed ∧ s.pins.handleOpen = true ∧
        (s.inLife .listen || s.inLife .ready || s.inLife .halted) = true) ∧
      (∃ s : State, s.lc.debounce.isRunning = true ∧ s.lc.handle = .closed ∧ s.pins.handleOpen = true ∧
        s.inLife .active = true ∧ s.waiting = false ∧ s.lc.phase = .noRemoval ∧ s.consumer = true ∧
        s.ps.power = .on ∧ s.lc.keys.ejectGrace ≠ 0) ∧
      (∃ s : State, s.lc.debounce.isRunning = true ∧ s.lc.handle = .closed ∧ s.pins.handleOpen = true ∧
        s.inLife .active = true ∧ s.waiting = false ∧ s.lc.phase = .noRemoval ∧ s.isRole .fan = true) ∧
      (∃ s : State, s.lc.debounce.isRunning = true ∧ s.lc.handle = .closed ∧ s.pins.handleOpen = true ∧
        s.inLife .active = true ∧ s.waiting = false ∧ s.lc.phase = .noRemoval ∧ s.isRole .power = true ∧
        s.sup.output = true ∧ s.sup.drain.isRunning = false) :=
  ⟨⟨moved true .noRemoval (station .blade .ready), by decide⟩,
    ⟨moved true .noRemoval (consumerWith .blade { power := .on }), by decide⟩,
    ⟨moved true .noRemoval (station .fan .active), by decide⟩,
    ⟨moved true .noRemoval { station .power .active with sup := { output := true } }, by decide⟩⟩

/-- Every power state of a consumer, a grace of 0 ms with min-on still running, and a supply whose drain runs or whose
output is low. -/
theorem witness_OpeningStartsRemoval_byState :
    (∀ p ∈ [PowerState.off, .fault, .cooldown, .claiming, .enabling, .on, .stopping],
      (moved true .noRemoval (consumerWith .blade { power := p })).lc.debounce.isRunning = true ∧
        (moved true .noRemoval (consumerWith .blade { power := p })).inLife .active = true ∧
        (moved true .noRemoval (consumerWith .blade { power := p })).waiting = false ∧
        (moved true .noRemoval (consumerWith .blade { power := p })).consumer = true ∧
        (moved true .noRemoval (consumerWith .blade { power := p })).ps.power = p) ∧
      (∃ (s : State) (r : Nat), s.lc.debounce.isRunning = true ∧ s.lc.handle = .closed ∧ s.pins.handleOpen = true ∧
        s.inLife .active = true ∧ s.waiting = false ∧ s.lc.phase = .noRemoval ∧ s.consumer = true ∧
        s.ps.power = .on ∧ s.lc.keys.ejectGrace = 0 ∧ s.ps.roseAt = some r ∧
        (s.reach s.lc.debounce).now < r + s.lc.keys.minOn * 25000) ∧
      (∀ x ∈ ([{ output := true, drain := .running 9 }, { output := false }] : List Supply),
        (moved true .noRemoval { station .power .active with sup := x }).isRole .power = true ∧
          (moved true .noRemoval { station .power .active with sup := x }).lc.handle = .closed ∧
          (moved true .noRemoval { station .power .active with sup := x }).waiting = false) :=
  ⟨by decide,
    ⟨{ moved true .noRemoval (consumerWith .blade { power := .on, roseAt := some 0 }) with
        lc := {
          (moved true .noRemoval (station .blade .active)).lc with
          keys := { ejectGrace := 0 } } }, 0, by decide⟩,
    by decide⟩

/-- A blade in its eject grace, its power good since the first tick. -/
def inGrace : State :=
  let s := moved false .grace (consumerWith .blade { power := .on, roseAt := some 0 })
  { s with lc := { s.lc with grace := .running 124999999 } }

theorem witness_GraceEndsOrIsCancelled :
    (inGrace.inLife .active = true ∧ inGrace.consumer = true ∧ inGrace.lc.phase = .grace ∧
      inGrace.lc.grace = .running 124999999 ∧ inGrace.ps.power = .on ∧ inGrace.ps.roseAt = some 0 ∧
      max inGrace.now 124999999 < 0 + inGrace.lc.keys.minOn * 25000 ∧ inGrace.waiting = false ∧
      inGrace.lc.debounce.isRunning = true ∧ inGrace.lc.handle = .opened ∧ inGrace.pins.handleOpen = false) ∧
      (∀ r ∈ [Role.blade, .fan, .power, .uplink],
        (removed r { leave := .pending .retry }).inLife .removable = true ∧
          (removed r { leave := .pending .retry }).waiting = false ∧
          (removed r { leave := .pending .retry }).lc.phase = .removableActive ∧
          (removed r { leave := .pending .retry }).lc.debounce.isRunning = true ∧
          (removed r { leave := .pending .retry }).lc.handle = .opened ∧
          (removed r { leave := .pending .retry }).pins.handleOpen = false ∧
          (removed r { leave := .pending .retry }).bi.idle = false) ∧
      (∃ (s : State) (h : Holder), s.isRole .uplink = true ∧ s.inLife .removable = true ∧
        slotGet s.lm.holders 3 = some h ∧ h.answer.isSome = true) ∧
      ∃ (s : State) (r : LaneRecord), s.isRole .blade = true ∧ s.inLife .removable = true ∧
        slotGet s.lb 3 = some r ∧ r.release = true :=
  ⟨by decide, by decide,
    ⟨{ removed .uplink {} with lm := { holders := [(3, { answer := some releasedAnswer })] } },
      { answer := some releasedAnswer }, by decide⟩,
    ⟨{ removed .blade {} with lb := [(3, { release := true })] }, { release := true }, by decide⟩⟩

/-- An uplink back from REMOVABLE on an idle bus, whose outbox holds an entry of another kind for the slot it answers. -/
theorem test_answerStandsAfterClosing :
    let s : State := { removed .uplink {} with
      bi := { (removed .uplink {}).bi with idle := true, lanes := [{ kind := .request, target := 5, sending := false }] }
      lm := { holders := [(5, { answer := some releasedAnswer })] } }
    s.isRole .uplink = true ∧ s.lc.debounce.isRunning = true ∧ s.bi.idle = true ∧
      (after .handleClosing s).bi.lanes.any (fun e => e.kind == .grant && e.target == 5) = true := by
  decide

/-- The grace ends, or POWER_OFF is taken in it, with min-on elapsed: the removal completes (R175). -/
theorem witness_GraceEndsOrIsCancelled_elapsed :
    ∀ minOff ∈ [0, 2000],
      let s : State := { inGrace with lc := { inGrace.lc with keys := { minOn := 0, minOff := minOff } } }
      s.accepts .powerOff = true ∧ 0 + s.lc.keys.minOn * 25000 ≤ s.now ∧
        ∀ c ∈ [Instr.graceEnd, .powerOff],
          (after c s).inLife .removable = true ∧
            (after c s).ps.power = (if minOff = 0 then .off else .cooldown) := by
  decide

theorem witness_LocalReset :
    State.reset.pins.resetAsserted = false ∧ (after .resetNAsserted State.reset).pins.resetAsserted = true ∧
      ({ State.reset with lp := { phase := .executing [1] } } : State).lp.phase = .executing [1] ∧
      ({ after .resetNAsserted State.reset with
        ro := { changes := [⟨.inserted, 3, .blade, none, 0⟩] } } : State).ro.changes ≠ [] := by
  decide

/-- A blade in READY whose GO and SET_MASK were executing at two local resets. -/
def twiceReset : State :=
  let s1 := after .resetNReleased (after .resetNAsserted (after (.packetTaken [5]) (station .blade .ready)))
  after .resetNReleased (after .resetNAsserted (after (.packetTaken [2, 0, 4]) s1))

/-- Both lost commands take their effect, the older first, and leave no result. -/
theorem test_lostCommands :
    twiceReset.lp.lostCommands = [[5], [2, 0, 4]] ∧ (after .go twiceReset).inLife .active = true ∧
      (after (.setMask 4) (after .go twiceReset)).lp.mask = 4 ∧
      (after (.setMask 4) (after .go twiceReset)).lp.lostCommands = [] ∧
      (after (.setMask 4) (after .go twiceReset)).lp.result = none := by
  decide

/-! ### The power sequencer -/

theorem witness_OutputsFollowState :
    (station .fan .active).isRole .fan = true ∧ (station .power .active).isRole .power = true ∧
      (station .uplink .active).consumer = true ∧ (station .uplink .active).inLife .start = false := by
  decide

/-- A blade with the highest event latched, under a mask. -/
def latchedUnder (m : Half) : State := { station .blade .active with lp := { latched := 0x2000, mask := m } }

/-- The highest event, unmasked and masked. -/
theorem witness_OutputsFollowState_attn :
    ((latchedUnder 0x2000).lp.sound = true ∧ (latchedUnder 0x2000).hasEvent .mailOverflow = true ∧
        (latchedUnder 0x2000).attn = true) ∧
      (latchedUnder 0x1FFF).lp.sound = true ∧ (latchedUnder 0x1FFF).attn = false := by
  decide

theorem witness_PowerOnEntersClaiming :
    (∀ r ∈ [Role.blade, .uplink], ∀ p ∈ [PowerState.off, .cooldown, .stopping],
      (consumerWith r { power := p }).accepts .powerOn = true ∧ (consumerWith r { power := p }).consumer = true ∧
        (consumerWith r { power := p }).inLife .active = true ∧ (consumerWith r { power := p }).ejecting = false ∧
        (consumerWith r { power := p }).ro.selfStale = false ∧ (consumerWith r { power := p }).ownClaim = none ∧
        (consumerWith r { power := p }).takesPosts = true ∧ (consumerWith r { power := p }).bi.idle = false) ∧
      (consumerWith .blade { shedHold := .running 2000 }).ps.shedHold.isRunning = true ∧
      ({ station .blade .active with sm := { t := Quad.all { critical := true } } } : State).thermalCritical = true := by
  decide

/-- A blade in CLAIMING whose hold-off runs, its claim as given. -/
def claiming (c : Claim) (level : Level) (good : Bool) : State :=
  let s := holding c (consumerWith .blade { power := .claiming, level := level, holdOff := .running 2000 })
  { s with pins := { s.pins with powerGood := good } }

theorem witness_HoldOffEndJudgesClaim :
    (∀ c ∈ [own 40 .full true, own 40 .full false, own 20 .floor false, own 21 .full false],
      (claiming c c.level false).consumer = true ∧ (claiming c c.level false).ps.power = .claiming ∧
        (claiming c c.level false).ps.holdOff = .running 2000 ∧ (claiming c c.level false).ownClaim = some c) ∧
      (claiming (own 40 .full true) .full true).pins.powerGood = true ∧
      (claiming (own 40 .full true) .full true).lm.queue = [] ∧
      (claiming (own 21 .full false) .full false).floorAmount < 21 ∧
      20 ≤ (claiming (own 20 .floor false) .floor false).floorAmount := by
  decide

theorem witness_PowerGoodDecides :
    (∃ s : State, s.consumer = true ∧ s.ps.power = .enabling ∧ s.ps.level = .full ∧ s.lm.queue = [] ∧
        s.ps.pgWindow = .running 2000) ∧
      ∃ s : State, s.consumer = true ∧ s.ps.power = .on :=
  ⟨⟨consumerWith .blade { power := .enabling, pgWindow := .running 2000 }, by decide⟩,
    ⟨consumerWith .uplink { power := .on }, by decide⟩⟩

theorem witness_PowerOffStopsModule :
    (∀ p ∈ [PowerState.off, .claiming, .enabling, .on, .stopping, .cooldown],
      (consumerWith .blade { power := p, roseAt := some 0 }).accepts .powerOff = true ∧
        (consumerWith .blade { power := p, roseAt := some 0 }).consumer = true ∧
        (consumerWith .blade { power := p, roseAt := some 0 }).inLife .active = true ∧
        (consumerWith .blade { power := p, roseAt := some 0 }).lc.phase = .noRemoval) ∧
      (station .blade .active).now < 0 + (station .blade .active).lc.keys.minOn * 25000 := by
  decide

theorem witness_MinOnAndMinOffEnd :
    (∃ (s : State) (r : Nat), s.consumer = true ∧ s.ps.power = .stopping ∧ s.ps.roseAt = some r ∧
        s.lc.keys.minOff ≠ 0) ∧
      (∃ s : State, s.consumer = true ∧ s.ps.power = .cooldown ∧ s.lc.phase = .noRemoval ∧ s.ps.pendingOn = false) ∧
      (∃ s : State, s.consumer = true ∧ s.ps.power = .cooldown ∧ s.lc.phase = .noRemoval ∧ s.ps.pendingOn = true ∧
        s.ro.selfStale = true ∧ (after .minOffEnd s).ps = { s.ps with power := .off }) ∧
      ∃ s : State, s.consumer = true ∧ s.ps.power = .cooldown ∧ s.lc.phase = .noRemoval ∧ s.ps.pendingOn = true ∧
        s.ro.selfStale = false :=
  ⟨⟨consumerWith .blade { power := .stopping, roseAt := some 7 }, 7, by decide⟩,
    ⟨consumerWith .blade { power := .cooldown }, by decide⟩,
    ⟨{ consumerWith .blade { power := .cooldown, pendingOn := true } with ro := { selfStale := true } }, by decide⟩,
    ⟨consumerWith .blade { power := .cooldown, pendingOn := true }, by decide⟩⟩

/-- A blade in a power state, ON since the first tick with a min-on of 0 ms, on a free line. -/
def minOnOver (p : PowerState) (minOff : Nat) (pendingOn : Bool) : State :=
  let s := holding (own 20 .full true) (consumerWith .blade { power := p, roseAt := some 0, pendingOn := pendingOn })
  { s with
    lc := { s.lc with keys := { minOn := 0, minOff := minOff } }
    bi := { s.bi with idle := true } }

/-- Min-on elapsed at a POWER_OFF, and at the end of STOPPING with a min-off of 0 ms. -/
theorem witness_PowerOffStopsModule_elapsed :
    (∀ p ∈ [PowerState.enabling, .on], ∀ minOff ∈ [0, 2000],
      (minOnOver p minOff false).accepts .powerOff = true ∧ (minOnOver p minOff false).ejecting = false ∧
        (minOnOver p minOff false).ps.roseAt = some 0 ∧
        0 + (minOnOver p minOff false).lc.keys.minOn * 25000 ≤ (minOnOver p minOff false).now ∧
        (after .powerOff (minOnOver p minOff false)).ps.power = (if minOff = 0 then .off else .cooldown)) := by
  decide

/-- A min-off of 0 ms ends as an event of its own: the RELEASE has started before the module claims again (R83). -/
theorem witness_MinOnAndMinOffEnd_atOnce :
    (minOnOver .stopping 0 true).ownClaim.isSome = true ∧ (minOnOver .stopping 0 true).lineFree = true ∧
      (minOnOver .stopping 0 true).inLife .start = false ∧
      (minOnOver .stopping 0 true).ejecting = false ∧ (minOnOver .stopping 0 true).ro.selfStale = false ∧
      (minOnOver .stopping 0 true).bi.kinds.claim = .empty ∧ (minOnOver .stopping 0 true).bi.kinds.release = .empty ∧
      (after .minOnEnd (minOnOver .stopping 0 true)).ps.power = .claiming ∧
      (after .minOnEnd (minOnOver .stopping 0 true)).bi.tx.map (·.frame.kind) = some 1 ∧
      (after .minOnEnd (minOnOver .stopping 0 true)).bi.kinds.claim = .pending .retry ∧
      (after .minOnEnd (minOnOver .stopping 0 false)).ps.power = .off := by
  decide

theorem witness_ClearFaultLeavesFault :
    (∃ (s : State) (r f : Nat), s.accepts .clearFault = true ∧ s.activeOrRemovable = true ∧
        s.lc.phase = .noRemoval ∧ s.ps.power = .fault ∧ s.ps.roseAt = some r ∧ s.ps.fellAt = some f ∧
        s.now < f + s.lc.keys.minOff * 25000 ∧ s.ps.reason = .overtemp ∧ s.shutdownHeld = false) ∧
      (∃ s : State, s.accepts .clearFault = true ∧ s.activeOrRemovable = true ∧ s.lc.phase = .noRemoval ∧
        s.ps.power = .fault ∧ s.ps.reason = .overtemp ∧ s.shutdownHeld = true) ∧
      ∃ s : State, s.accepts .clearFault = true ∧ s.activeOrRemovable = true ∧ s.lc.phase = .noRemoval ∧
        s.ps.power ≠ .fault :=
  ⟨⟨consumerWith .blade { power := .fault, reason := .overtemp, roseAt := some 0, fellAt := some 900 }, 0, 900,
      by decide⟩,
    ⟨{ consumerWith .blade { power := .fault, reason := .overtemp } with
        sm := { t := Quad.all { shutdown := true } } }, by decide⟩,
    ⟨consumerWith .blade {}, by decide⟩⟩

/-- A consumer at a power record whose claim of an amount has the capacity given; N+1 with one supply and a reserve of 20
leave C_eff at the capacity less 20. -/
def powered (capacity amount : Nat) (x : Sequencer) : State :=
  budgeted capacity (own amount x.level true) (consumerWith .blade x)

theorem witness_SetLevelChangesLevel :
    (∀ p ∈ [PowerState.claiming, .enabling, .on],
      (powered 60 40 { power := p }).accepts (.setLevel 1) = true ∧
        (powered 60 40 { power := p }).activeOrRemovable = true ∧ (powered 60 40 { power := p }).ejecting = false ∧
        (powered 60 40 { power := p }).ps.level = .full ∧
        ((powered 60 40 { power := p }).claimedAt (powered 60 40 { power := p }).floorAmount .floor).ownMark = true ∧
        ((powered 39 40 { power := p }).claimedAt (powered 39 40 { power := p }).floorAmount .floor).ownMark = false) ∧
      (∀ p ∈ [PowerState.off, .cooldown, .stopping, .fault],
        (consumerWith .blade { power := p }).accepts (.setLevel 0) = true ∧
          (consumerWith .blade { power := p }).accepts (.setLevel 1) = true) ∧
      ((powered 60 40 { power := .on, level := .floor, raise := .level }).accepts (.setLevel 1) = true ∧
        ((powered 60 40 { power := .on, level := .floor, raise := .level }).claimedAt 20 .floor).ownMark = true ∧
        ((powered 39 40 { power := .on, level := .floor, raise := .level }).claimedAt 20 .floor).ownMark = false) ∧
      ((powered 60 20 { power := .on, level := .floor }).accepts (.setLevel 0) = true ∧
        (powered 60 20 { power := .on, level := .floor }).fullAmount = 40 ∧
        ((powered 60 20 { power := .on, level := .floor }).claimedAt 40 .floor).ownMark = true) ∧
      (consumerWith .blade {}).accepts (.setLevel 2) = true ∧ 2 ≤ (2 : Byte).toNat := by
  decide

theorem witness_SetAmountStoresAmount :
    (∀ p ∈ [PowerState.off, .cooldown, .fault, .stopping, .claiming, .enabling, .on],
      (consumerWith .blade { power := p }).accepts (.setAmount 400) = true ∧
        (consumerWith .blade { power := p }).activeOrRemovable = true ∧
        (consumerWith .blade { power := p }).ps.raise = .noRaise ∧
        (consumerWith .blade { power := p }).ejecting = false ∧ (consumerWith .blade { power := p }).ps.level = .full ∧
        (consumerWith .blade { power := p }).ps.working = 40) ∧
      (max (min 400 (max 1 0)) (max 1 20) = 20 ∧ max (min 400 (max 1 65535)) (max 1 20) = 400) ∧
      ((consumerWith .blade { power := .on, shedHold := .running 2000 }).ps.shedHold.isRunning = true ∧
        (consumerWith .blade { power := .on, shedHold := .running 2000 }).accepts (.setAmount 41) = true) ∧
      ((powered 61 40 { power := .on }).thermalCritical = false ∧
        ((powered 61 40 { power := .on }).claimedAt 41 .full).ownMark = true ∧
        ((powered 60 40 { power := .on }).claimedAt 41 .full).ownMark = false ∧
        (((powered 60 40 { power := .on }).claimedAt 41 .full).claimedAt 40 .full).ownMark = true) := by
  decide

theorem witness_ShedPulseDropsToFloor :
    (∀ r ∈ [Role.blade, .fan, .power, .uplink],
      (station r .active).inLife .active = true ∧ (station r .active).watchesPulses = true) ∧
      (consumerWith .blade { power := .on }).ps.level = .full ∧
      (consumerWith .blade { power := .claiming, level := .floor }).ps.level = .floor := by
  decide

/-- A blade at FLOOR in ON whose shed holdoff or raise runs. -/
def atFloor (capacity : Nat) (r : Raise) : State :=
  powered capacity (if r = .noRaise then 20 else 40)
    { power := .on, level := .floor, raise := r, shedHold := .running 2000, raiseHold := .running 2000 }

/-- The claim of 300 at the highest priority that a blade in slot 3 sends. -/
def greedy : List Byte := claimPayload { own 300 .full false with priority := 0 }

theorem witness_RaiseStartsAndCompletes :
    (∀ cap ∈ [60, 59, 39],
      (atFloor cap .noRaise).lc.phase = .noRemoval ∧ (atFloor cap .noRaise).consumer = true ∧
        (atFloor cap .noRaise).inLife .active = true ∧ (atFloor cap .noRaise).ps.shedHold = .running 2000 ∧
        (atFloor cap .noRaise).ps.desired = .full ∧ (atFloor cap .noRaise).thermalCritical = false ∧
        ((atFloor cap .noRaise).claimedAt (atFloor cap .noRaise).fullAmount .floor).ownMark = decide (cap = 60) ∧
        (((atFloor cap .noRaise).claimedAt (atFloor cap .noRaise).fullAmount .floor).claimedAt
          (atFloor cap .noRaise).floorAmount .floor).ownMark = decide (cap ≠ 39)) ∧
      (consumerWith .blade { shedHold := .running 2000 }).ps.power ≠ .on ∧
      (∀ cap ∈ [60, 59, 39],
        (atFloor cap .level).ps.raiseHold = .running 2000 ∧ (atFloor cap .level).lm.queue = [] ∧
          (atFloor cap .level).ownMark = decide (cap = 60) ∧
          ((atFloor cap .level).claimedAt (atFloor cap .level).floorAmount .floor).ownMark = decide (cap ≠ 39)) ∧
      (∀ cap ∈ [75, 74],
        (powered cap 55 { power := .on, raise := .amount 55, raiseHold := .running 5 }).ownMark = decide (cap = 75) ∧
          ((powered cap 55 { power := .on, raise := .amount 55, raiseHold := .running 5 }).claimedAt 40
            .full).ownMark = true) := by
  decide

/-- The claim of a blade in slot 3 by which the own claim loses its admission, in every case of the last clause. -/
theorem witness_RaiseStartsAndCompletes_lossOfAdmission :
    (slotGet bladeOn.ro.entries 3 = some { role := .blade, power := some .on } ∧ greedy.length = 5) ∧
      ∀ x ∈ [({ power := .on } : Sequencer), { power := .enabling }, { power := .stopping }, { power := .claiming },
          { power := .on, level := .floor }, { power := .on, level := .floor, raise := .level },
          { power := .on, raise := .amount 55 }],
        (powered 330 40 x).hears 3 = true ∧ (powered 330 40 x).ownMark = true ∧
          ((powered 330 40 x).claimedBy 3 { role := .blade, power := some .on } (readClaim greedy)).ownMark = false ∧
          (((powered 345 40 x).claimedBy 3 { role := .blade, power := some .on } (readClaim greedy)).claimedAt 20
            .floor).ownMark = true ∧
          (((powered 330 40 x).claimedBy 3 { role := .blade, power := some .on } (readClaim greedy)).claimedAt 20
            .floor).ownMark = false := by
  decide

/-! ### Budget and roster -/

/-- An entry of a role as a first ANNOUNCE makes it. -/
def entry (r : Role) : RosterEntry := { role := r, power := some .on, level := some .full, silence := 3 }

theorem witness_CapacityStages :
    (supplySet workedEntries).length = 3 ∧ (computeStages { redundancy := .noRedundancy } workedEntries).s = 850 ∧
      (computeStages {} workedEntries).n = 3 ∧ (computeStages {} (workedEntries.take 1)).n = 1 ∧
      (computeStages {} []).n = 0 ∧
      (computeStages { redundancy := .halfFeeds } workedEntries).sumB = 300 ∧
      (computeStages { redundancy := .halfFeeds } (workedEntries.take 1)).sumB = 0 := by
  decide

/-- A recompute that clears REDUNDANCY_LOST latches REDUNDANCY, but not at a station configured NONE (R68). -/
theorem witness_CapacityStages_events :
    ∀ mode ∈ [Redundancy.noRedundancy, .nPlusOne],
      let s : State := { station .blade .ready with
        lc := { (station .blade .ready).lc with keys := { redundancy := mode } }
        bu := { stages := { lost := true } } }
      s.pins.resetAsserted = false ∧ (recompute s).bu.stages.lost = false ∧
        ((recompute s).hasEvent .redundancy = true ↔ mode = .nPlusOne) := by
  decide

/-- A recompute that changes REDUNDANCY_LOST and C_eff. -/
theorem witness_AdmittedPrefixIsLongestRun :
    ∃ s : State, s.pins.resetAsserted = false ∧ (recompute s).bu.stages.lost ≠ s.bu.stages.lost ∧
      (recompute s).bu.stages.cEff ≠ s.bu.stages.cEff :=
  ⟨hearing { role := .power, supply := some { capacity := 300, state := .good, feed := .a } } (station .blade .ready),
    by decide⟩

theorem witness_ReportFramesUpdateEntry :
    (∀ r ∈ [Role.blade, .fan, .power, .uplink],
      (hearing (entry r) (station .blade .active)).hears 3 = true ∧
        slotGet (hearing (entry r) (station .blade .active)).ro.entries (3 : BitVec 6).toNat = some (entry r)) ∧
      (List.replicate 5 (0 : Byte)).length = 5 ∧ ([] : List Byte).length = 0 := by
  decide

/-- ANNOUNCE payloads of a blade and of a fan tray, and JOIN payloads of blades with two serials. -/
def announceOf (r : Role) : List Byte := announcePayload (entry r)
def joinOf (serial : Word64) : List Byte := joinPayload .blade { typeCode := 7, revision := 1, serial := serial }

theorem witness_RosterFollowsComingsAndGoings :
    ((announceOf .fan).length = 7 ∧ (joinOf 9).length = 12 ∧ (station .blade .active).hears 3 = true ∧
        slotGet (station .blade .active).ro.entries (3 : BitVec 6).toNat = none ∧
        (station .blade .active).ro.changes.length ≤ 16) ∧
      ((readAnnounce (announceOf .blade)).role = .blade ∧ (readAnnounce (announceOf .fan)).role = .fan ∧
        (readJoin (joinOf 9)).1 = .blade ∧ (readJoin (joinOf 9)).2.serial = 9) ∧
      ∀ e ∈ [entry .blade, { entry .blade with identity := some { typeCode := 7, revision := 1, serial := 9 } },
          { entry .blade with identity := some { typeCode := 7, revision := 1, serial := 8 } }],
        (hearing e (station .blade .active)).hears 3 = true ∧
          slotGet (hearing e (station .blade .active)).ro.entries (3 : BitVec 6).toNat = some e := by
  decide

/-- Bits of each counted error: SYNC departing recessive, ten recessive bits, and a whole frame with a wrong CHECK. -/
def badCheck : List Bool :=
  let body := Frame.bodyBits { kind := 1, src := 22, payload := [] }
  syncBits ++ stuff (body.dropLast ++ [!body.getLastD true]) ++ endBits

theorem witness_OddFramesAreOnlyCounted :
    (∀ l ∈ [Life.halted, .listen, .ready, .active, .clash, .removable],
      (station .blade l).lc.life ≠ none ∧ (station .blade l).inLife .start = false ∧
        (station .blade l).bi.rate ≠ none ∧ (station .blade l).bi.synced = true ∧ (station .blade l).ownSlot = 5 ∧
        (station .blade l).removalDue = false) ∧
      ((47 : BitVec 6).toNat < 48 ∧ (47 : BitVec 6).toNat ≠ 5) ∧
      (lengthFits 0 5 = true ∧ lengthFits 11 12 = true ∧ lengthFits 15 0 = true) ∧
      ((station .uplink .active).hears 3 = true ∧
        slotGet (station .uplink .active).ro.entries (3 : BitVec 6).toNat = none) ∧
      classify [true] = .stuffError ∧ classify (syncBits ++ List.replicate 10 true) = .truncation ∧
      classify badCheck = .checkError ∧ ([0] : List Byte).length ≠ 0 ∧
      (after (.frameError [true]) (station .blade .active)).bi.synced = false ∧
      (after (.frameError [true]) (station .blade .active)).bi.idle = false := by
  decide +kernel

/-- The line of a RELEASE from a slot up to the last bit before END, which is the stuff bit due after CHECK where CHECK ends
in six equal bits, with that bit inverted. -/
def badLastStuff (src : BitVec 6) : List Bool :=
  let body := stuff (Frame.bodyBits { kind := 1, src := src, payload := [] })
  syncBits ++ body.dropLast ++ [!body.getLastD true]

/-- A run that breaks the last stuffing and goes on in END (R23; log entry 70). From slot 0 CHECK ends in six recessive
bits, from slot 13 in six dominant ones. -/
theorem test_runBeyondCheck :
    classify (badLastStuff 0 ++ endBits) = .truncation ∧
      classify (badLastStuff 0 ++ [true, true, false]) = .stuffError ∧
      classify (badLastStuff 0 ++ [true, true, true, false]) = .truncation ∧
      classify (badLastStuff 13 ++ endBits) = .stuffError := by
  decide +kernel

/-- A station whose aging pointer stands at a slot. -/
def aging (slot : Nat) (s : State) : State := { s with ro := { s.ro with scanning := true, pointer := slot } }

theorem witness_AgingVisitJudgesSlot :
    ((aging 47 (station .blade .active)).ro.scanning = true ∧ (aging 47 (station .blade .active)).ro.pointer = 47 ∧
        (aging 47 (station .blade .active)).ownSlot = 5 ∧
        slotGet (aging 47 (station .blade .active)).ro.entries 47 = none) ∧
      (slotGet (aging 3 (hearing { role := .blade, silence := 2 } (station .blade .active))).ro.entries 3 =
          some { role := .blade, silence := 2 } ∧ min (2 + 1) 15 < (station .blade .active).lc.keys.retention) ∧
      (slotGet (aging 3 (hearing (entry .blade) (station .blade .active))).ro.entries 3 = some (entry .blade) ∧
        (station .blade .active).lc.keys.retention ≤ min (3 + 1) 15) ∧
      ∃ s : State, s.ro.scanning = true ∧ s.ro.pointer = s.ownSlot ∧ s.inLife .active = true ∧
        s.ro.sentMark = false ∧ s.ro.heardMark = true ∧ s.lc.keys.retention ≤ min (s.ro.selfSilence + 1) 15 ∧
        s.consumer = true ∧ s.ro.selfStale = false :=
  ⟨by decide, by decide, by decide,
    { station .blade .active with
      ro := { scanning := true, pointer := 5, heardMark := true, selfSilence := 3 } }, by decide⟩

/-- The visit that sets SELF-STALE in each power state, inside a removal and outside (R102, R175). -/
theorem witness_AgingVisitJudgesSlot_stale :
    ∀ p ∈ [PowerState.off, .claiming, .enabling, .on, .stopping, .cooldown, .fault],
      ∀ ph ∈ [RemovalPhase.noRemoval, .grace],
      let s : State := { consumerWith .blade { power := p } with
        ro := { scanning := true, pointer := 5, heardMark := true, selfSilence := 3 }
        lc := { (station .blade .active).lc with phase := ph } }
      s.ro.pointer = s.ownSlot ∧ s.consumer = true ∧ s.ro.selfStale = false ∧
        s.lc.keys.retention ≤ min (s.ro.selfSilence + 1) 15 ∧ s.inLife .active = true ∧
        (p.isDown = true → ph = .noRemoval → s.removalDue = false) ∧ (after .agingVisit s).ro.selfStale = true ∧
        (p = .on → (after .agingVisit s).ps.pendingOn = (ph == .noRemoval)) := by
  decide

/-! ### The slot bus -/

theorem witness_RateLock :
    (∀ x ∈ [false, true],
      ({ station .blade .listen with bi := { synced := x } } : State).inLife .listen = true ∧
        ({ station .blade .listen with bi := { synced := x } } : State).bi.rate = none ∧
        ({ station .blade .listen with bi := { synced := x } } : State).pins.resetAsserted = false) ∧
      ((1236 - 1200 + (1200 - 1236)) * 100 ≤ 3 * 1200 ∧ (146 - 150 + (150 - 146)) * 100 ≤ 3 * 150) ∧
      (1300 ≤ 1300 ∧
        ∀ e ∈ [150, 300, 600, 1200], 3 * e < (1300 - e + (e - 1300)) * 100) ∧
      1300 < 1301 ∧
      ({ station .blade .listen with bi := { synced := true } } : State).bi.tx = none ∧
      (after .rateCounterOverflow
        (after .shedDetection { station .blade .listen with bi := { synced := true } })).bi.stats.rateOverflows = 1 := by
  decide

/-- A station in ACTIVE on a bus that is not idle, with kind entries. -/
def posting (k : KindEntries) : State :=
  { station .blade .active with bi := { rate := some .k250, txState := .enabled, kinds := k } }

theorem witness_IdleStartsLowestIdentifier :
    (∃ (s : State) (c : Choice) (payload : List Byte), s.lc.life ≠ none ∧ s.inLife .start = false ∧ s.isSending = false ∧ s.bi.tx = none ∧
        s.removalDue = false ∧ s.nextChoice = some c ∧ s.content c = some payload) ∧
      (∃ s : State, s.lc.life ≠ none ∧ s.inLife .start = false ∧ s.isSending = false ∧ s.bi.tx = none ∧
        s.removalDue = false ∧ s.nextChoice = none) :=
  ⟨⟨posting { announce := .pending .retry, join := .pending .retry }, .own .announce, _, by decide, by decide,
      by decide, by decide, by decide, by decide, rfl⟩,
    ⟨posting {}, by decide⟩⟩

/-- A transmission of the ANNOUNCE, stopped or not. -/
def sending (m : Mode) (stopped : Option StopKind) (shed : Bool) : Tx :=
  { ref := .own .announce, mode := m, frame := { kind := 8, src := 5, payload := [] }, stopped := stopped,
    shedSeen := shed, doomed := false }

def transmitting (m : Mode) (stopped : Option StopKind) (shed : Bool) (run : Nat) : State :=
  let s := posting { announce := .sending m none }
  { s with bi := { s.bi with tx := some (sending m stopped shed), failRun := run } }

theorem witness_TransmissionEndsAtItsEntry :
    (∀ m ∈ [Mode.retry, .single], ∀ stop ∈ [none, some StopKind.arbitration, some StopKind.mismatch],
      ∀ shed ∈ [false, true], ∀ run ∈ [0, 14, 15],
      (transmitting m stop shed run).bi.tx = some (sending m stop shed) ∧
        (transmitting m stop shed run).bi.kinds.at .announce = .sending m none ∧
        (transmitting m stop shed run).bi.pulse.isRunning = false ∧
        (transmitting m stop shed run).inLife .active = true ∧
        (transmitting m stop shed run).bi.txState = .enabled ∧ (transmitting m stop shed run).waiting = false ∧
        (transmitting m stop shed run).lc.phase = .noRemoval ∧
        (transmitting m stop shed run).removalDue = false) ∧
      ∃ (s : State) (x : Tx), s.bi.tx = some x ∧ x.ref = .own .leave ∧ x.stopped = none ∧
        s.inLife .removable = true ∧ s.waiting = false ∧ s.lc.leaveOutcome = .pending ∧ s.ro.selfStale = false :=
  ⟨by decide,
    { station .blade .removable with
      lc := { (station .blade .removable).lc with leaveOutcome := .pending }
      bi := { rate := some .k250, tx := some { sending .retry none false with ref := .own .leave } } },
    { sending .retry none false with ref := .own .leave }, by decide⟩

/-- A repeat flag met by an ending other than success: the entry is PENDING again, a failed single counted (log entry 51). -/
theorem witness_TransmissionEndsAtItsEntry_repeat :
    ∃ s : State, s.bi.tx = some (sending .single (some .mismatch) false) ∧
      s.bi.kinds.at .announce = .sending .single (some .retry) ∧ s.bi.failRun < 16 ∧ s.waiting = false ∧
      (after (.busIdle true) s).bi.kinds.at .announce = .pending .retry ∧
      (after (.busIdle true) s).bi.stats.failedSingles = 1 :=
  ⟨{ transmitting .single (some .mismatch) false 0 with
      bi := { (transmitting .single (some .mismatch) false 0).bi with
        kinds := { announce := .sending .single (some .retry) } } }, by decide⟩

/-- The retry of a transmission lost to arbitration or to a bit error starts at the idle that classes it; the sixteenth bit
error mutes the transmitter and starts nothing (R30, R36). -/
theorem witness_FramesStartOnlyWhereAllowed_retry :
    (∀ how ∈ [StopKind.arbitration, .mismatch],
      (transmitting .retry (some how) false 0).bi.tx = some (sending .retry (some how) false) ∧
        ((after (.busIdle false) (transmitting .retry (some how) false 0)).bi.tx.map (·.stopped)) = some none) ∧
      (after (.busIdle false) (transmitting .retry (some .mismatch) false 15)).bi.tx = none ∧
      (after (.busIdle false) (transmitting .retry (some .mismatch) false 15)).bi.txState = .mute := by
  decide

/-- A stopped transmission before the choice, an entry without content in it, and both with nothing left to start. -/
theorem witness_IdleStartsLowestIdentifier_again :
    (∃ s u : State, s.lc.life ≠ none ∧ s.inLife .start = false ∧ s.isSending = false ∧ s.bi.tx ≠ none ∧
        u = classEnding s ∧ u.lc.life ≠ none ∧ u.inLife .start = false ∧ u.removalDue = false ∧
        u.passesOver [] u ∧ u.nextChoice = some (.own .announce)) ∧
      (∃ s v : State, s.isSending = false ∧ s.bi.tx = none ∧ s.passesOver [.own .claim] v ∧
        v.nextChoice = some (.own .join)) ∧
      ∃ s v : State, s.isSending = false ∧ s.bi.tx = none ∧ s.passesOver [.own .claim, .own .thermal] v ∧
        v.nextChoice = none :=
  ⟨⟨transmitting .retry (some .arbitration) false 0, _, by decide, by decide, by decide, by decide, rfl, by decide,
      by decide, by decide, rfl, by decide⟩,
    ⟨posting { claim := .pending .retry, join := .pending .retry }, _, by decide, by decide,
      ⟨by decide, by decide, rfl⟩, by decide⟩,
    ⟨posting { claim := .pending .retry, thermal := .pending .single }, _, by decide, by decide,
      ⟨by decide, by decide, by decide, by decide, rfl⟩, by decide⟩⟩

/-- A station in a goodbye wait that sends its LEAVE, stopped or not, at a failure run. -/
def leaving (l : Life) (restart : Bool) (stop : Option StopKind) (run : Nat) : State :=
  let s := station .blade l
  { s with
    lc := { s.lc with
      phase := if l = .removable then .removableActive else .noRemoval
      restartWait := if restart then .running 9000 else .stopped 0
      unseatedWait := if restart then .stopped 0 else .running 9000 }
    bi := { s.bi with
      kinds := { leave := .sending (if l = .removable then .retry else .single) none }
      failRun := run
      tx := some { sending .single stop false with ref := .own .leave } } }

/-- Every end of a goodbye wait but its time (R15, R35, R180). -/
theorem witness_StandbyPowerAndSeated_waits :
    (∀ r ∈ [true, false], ∀ l ∈ [Life.active, .removable], ∀ stop ∈ [none, some StopKind.mismatch],
      (leaving l r stop 15).waiting = true ∧ (leaving l r stop 15).inLife l = true ∧
        (leaving l r stop 15).bi.tx = some { sending .single stop false with ref := .own .leave } ∧
        (leaving l r stop 15).bi.pulse.isRunning = false ∧ (leaving l r stop 15).receives = true ∧
        (leaving l r stop 15).delivers = true ∧ (5 : BitVec 6).toNat = (leaving l r stop 15).ownSlot) ∧
      (∀ c ∈ [Instr.busIdle true, .releaseReceived 5 []],
        after c (leaving .active true (some .mismatch) 0) = (leaving .active true (some .mismatch) 0).goodbyeOver 1000 ∧
          after c (leaving .active false (some .mismatch) 0) =
            (leaving .active false (some .mismatch) 0).goodbyeOver 1000) ∧
      after (.busIdle true) (leaving .removable true (some .mismatch) 15) =
        (leaving .removable true (some .mismatch) 15).goodbyeOver 1000 ∧
      ({ station .blade .active with bi := { txState := .mute } } : State).waiting = false := by
  decide

/-- A success while SELF-STALE stands, at a module in OFF with pending-on set: it claims again (R55, R102). -/
theorem witness_TransmissionEndsAtItsEntry_stale :
    ∃ s : State, s.bi.tx = some (sending .retry none false) ∧ s.removalDue = false ∧ s.claimsAgain = true ∧
      s.ownClaim = none ∧ s.takesPosts = true ∧ (after .transmitSuccess s).ps.power = .claiming ∧
      (after .transmitSuccess s).ro.selfStale = false :=
  ⟨{ transmitting .retry none false 0 with
      ro := { selfStale := true }
      ps := { pendingOn := true } }, by decide⟩

/-- A station that sends a lane frame behind other lane entries. -/
def sendingLaneTo (r : Role) (e : LaneEntry) (others : List LaneEntry) (stop : Option StopKind) : State :=
  { station r .active with
    bi := {
      rate := some .k250, synced := true, txState := .enabled, lanes := others ++ [e]
      tx := some { sending .retry stop false with ref := .lane } } }

/-- An uplink with a full lane outbox whose LANE_GRANT to slot 3 is in flight, or overtaken by a newer answer, while the
answer for slot 2 waits flagged. -/
def grantingTo3 (inFlight : Bool) (stop : Option StopKind) : State :=
  { sendingLaneTo .uplink ⟨.grant, 3, true⟩ [⟨.grant, 7, false⟩, ⟨.grant, 8, false⟩, ⟨.grant, 9, false⟩] stop with
    lm := { holders := [
      (2, { answer := some grantedAnswer, notify := true }),
      (3, { answer := some grantedAnswer, inFlight := inFlight })] } }

/-- A blade whose frame to the uplink in slot 3 succeeds, with a lane record. -/
def releasingTo3 (k : LaneKind) (r : LaneRecord) : State :=
  { sendingLaneTo .blade ⟨k, 3, true⟩ [] none with lb := [(3, r)] }

theorem witness_TransmissionEndsAtItsEntry_lanes :
    (∀ inFlight ∈ [true, false], ∀ stop ∈ [none, some StopKind.mismatch],
      (grantingTo3 inFlight stop).bi.lanes =
          [⟨.grant, 7, false⟩, ⟨.grant, 8, false⟩, ⟨.grant, 9, false⟩] ++ ⟨.grant, 3, true⟩ :: [] ∧
        (grantingTo3 inFlight stop).bi.lanes.length ≤ 4 ∧ (grantingTo3 inFlight stop).waiting = false ∧
        (grantingTo3 inFlight stop).isRole .uplink = true ∧ (grantingTo3 inFlight stop).lm.sound = true ∧
        (grantingTo3 inFlight stop).takesPosts = true ∧ (grantingTo3 inFlight stop).ro.selfStale = false ∧
        (grantingTo3 inFlight stop).removalDue = false) ∧
      ((after .transmitSuccess (grantingTo3 false none)).bi.lanes.map (·.target) = [7, 8, 9, 2] ∧
        ((after .transmitSuccess (grantingTo3 false none)).holder 3).notify = true ∧
        ((after .transmitSuccess (grantingTo3 true none)).holder 3).answer = none) ∧
      ∀ r ∈ ([{ release := true }, { release := true, held := 1 }, { pending := 1 }] : List LaneRecord),
        slotGet (releasingTo3 .release r).lb 3 = some r ∧ slotGet (releasingTo3 .request r).lb 3 = some r ∧
          slotWf (releasingTo3 .release r).lb = true ∧ (releasingTo3 .release r).removalDue = false := by
  decide

/-- A station that sends the first of two mail entries, its outbox record 1 SENDING. -/
def mailingFrom1 (m : Mode) (stop : Option StopKind) (shed : Bool) : State :=
  { station .blade .active with
    lp := { box0 := { status := .pending }, box1 := { status := .sending } }
    bi := {
      rate := some .k250, synced := true, txState := .enabled
      mails := [⟨1, 3, [], m, true⟩, ⟨0, 3, [], .retry, false⟩]
      tx := some { sending m stop shed with ref := .mail } } }

theorem witness_TransmissionEndsAtItsEntry_mail :
    (∀ m ∈ [Mode.retry, .single], ∀ stop ∈ [none, some StopKind.arbitration, some StopKind.mismatch],
      ∀ shed ∈ [false, true],
      (mailingFrom1 m stop shed).bi.tx = some { sending m stop shed with ref := .mail } ∧
        (mailingFrom1 m stop shed).lp.statusOf 1 ≠ .unused ∧ (mailingFrom1 m stop shed).waiting = false ∧
        (mailingFrom1 m stop shed).removalDue = false) ∧
      (after .transmitSuccess (mailingFrom1 .single none false)).lp.box1.status = .sent ∧
      (after (.busIdle true) (mailingFrom1 .single (some .mismatch) false)).lp.box1.status = .failed ∧
      (after (.busIdle true) (mailingFrom1 .retry (some .mismatch) false)).lp.box1.status = .pending := by
  decide

/-- A station whose two interval timers expire, at an identity count, with its periodics posted and an own demand. -/
def beating (r : Role) (count : Nat) : State :=
  { station r .active with
    bi := {
      rate := some .k250, synced := true, txState := .enabled, timerA := .running 9, timerB := .running 9
      identityCount := count, stats := { latePeriodics := 65534 }
      kinds := {
        announce := .pending .single, capacity := .pending .single, fanstat := .pending .single
        join := .pending .single } }
    sm := { ownDemand := some 20 } }

theorem witness_IntervalTimersRunOn :
    (∀ r ∈ [Role.blade, .fan, .power, .uplink], ∀ n ∈ [0, 14, 15],
      (beating r n).lc.phase = .noRemoval ∧ (beating r n).bi.timerA = .running 9 ∧ (beating r n).takesPosts = true ∧
        (beating r n).role ≠ none ∧ (beating r n).bi.idle = false ∧
        (beating r n).bi.kinds.announce = .pending .single ∧ (beating r n).bi.stats.latePeriodics = 65534 ∧
        ((beating r n).lc.keys.identityRepeat ≤ min ((beating r n).bi.identityCount + 1) 255 ↔ n = 15)) ∧
      ((beating .blade 0).bi.timerB = .running 9 ∧ (beating .blade 0).isRole .fan = false ∧
        (beating .blade 0).sm.ownDemand ≠ none) ∧
      ∃ (s : State) (due : Nat), s.lc.phase = .noRemoval ∧ s.bi.mute = .running due ∧ s.bi.txState = .mute :=
  ⟨by decide, by decide,
    ⟨{ station .blade .active with bi := { rate := some .k250, txState := .mute, mute := .running 9 } }, 9,
      by decide⟩⟩

/-- An uplink at FLOOR at a round, with requests whose ages stand where the clauses meet. -/
def queueing (ages : List Nat) (level : Level) : State :=
  { beating .uplink 0 with
    ps := { power := .on, level := level }
    lm := { queue := ages.zipIdx.map (fun x => { slot := x.2 + 20, count := 1, age := x.1 }) } }

theorem witness_IntervalTimersRunOn_lanes :
    (∀ q ∈ (queueing [9, 254, 8, 255] .floor).lm.queue, (queueing [9, 254, 8, 255] .floor).servable q = false) ∧
      (∀ q ∈ (queueing [0] .full).lm.queue.head?, (queueing [0] .full).servable q = true) ∧
      ((queueing [9] .floor).isRole .uplink = true ∧ (queueing [9] .floor).inLife .active = true ∧
        (queueing [9] .floor).lc.keys.queueWait = 10) ∧
      (after .round (queueing [9, 254, 8, 255] .floor)).lm.queue.map (fun q => (q.slot, q.age)) = [(22, 9), (23, 255)] ∧
      (∃ (s : State) (r : LaneRecord), s.isRole .blade = true ∧ s.inLife .active = true ∧
        s.bi.timerA = .running 9 ∧ slotGet s.lb 3 = some r ∧ 0 < r.pending ∧ s.takesPosts = true ∧
        s.bi.idle = false ∧ s.hasPending .request 3 = false) ∧
      ∃ (s : State) (r : LaneRecord), s.isRole .blade = true ∧ s.inLife .active = true ∧
        s.bi.timerA = .running 9 ∧ slotGet s.lb 3 = some r ∧ 0 < r.pending ∧ s.hasPending .request 3 = true :=
  ⟨by decide, by decide, by decide, by decide,
    ⟨{ beating .blade 0 with lb := [(3, { pending := 1 })] }, { pending := 1 }, by decide⟩,
    ⟨{ beating .blade 0 with
        lb := [(3, { pending := 4 })]
        bi := { (beating .blade 0).bi with lanes := [⟨.request, 3, false⟩] } }, { pending := 4 }, by decide⟩⟩

/-! ### Supplies, sensors, fans -/

def supplyWith (x : Supply) : State := { station .power .active with sup := x }

theorem witness_SupplyDrainsGuardsAndPulses :
    ((supplyWith { output := true }).isRole .power = true ∧ (supplyWith { output := true }).inLife .active = true ∧
        (supplyWith { output := true }).accepts .powerOff = true ∧
        (supplyWith { output := true }).lc.phase = .noRemoval ∧
        (supplyWith { output := true }).sup.drain.isRunning = false) ∧
      (supplyWith { drain := .running 9 }).sup.drain = .running 9 ∧
      (∃ s : State, s.isRole .power = true ∧ s.inLife .active = true ∧ s.sup.drain = .running 9 ∧
        s.lc.phase = .poweringDown ∧ s.waiting = false) ∧
      ((supplyWith { output := true, localOff := true }).accepts .powerOn = true ∧
        (supplyWith {}).accepts .powerOn = true) ∧
      ((supplyWith { guard := .running 9, overload := 2 }).sup.overload < 3 ∧
        (supplyWith { guard := .running 9, overload := 3 }).sup.guard = .running 9) ∧
      ∃ s : State, s.isRole .power = true ∧ s.inLife .active = true ∧ s.bi.pulse = .running 9 :=
  ⟨by decide, by decide,
    ⟨{ supplyWith { drain := .running 9 } with
        lc := { (station .power .active).lc with phase := .poweringDown } }, by decide⟩,
    by decide, by decide,
    ⟨{ station .power .active with bi := { rate := some .k250, txState := .enabled, pulse := .running 9 } }, by decide⟩⟩

/-- A station whose conversion of a channel ends. -/
def converting (k : Nat) (s : State) : State := { s with sm := { s.sm with next := k, conversion := .running 9 } }

/-- An open diode, a reading at the hysteresis and one above every limit are what the clauses meet. -/
theorem witness_TConversionJudgesChannel :
    (∀ k ∈ [0, 3],
      (converting k (consumerWith .blade { power := .on })).sm.conversion = .running 9 ∧
        (converting k (consumerWith .blade { power := .on })).sm.next = k ∧
        ((converting k (consumerWith .blade { power := .on })).sm.t.at k).critical = false ∧
        ((converting k (consumerWith .blade { power := .on })).sm.t.at k).shutdown = false) ∧
      (consumerWith .blade { power := .on }).ps.level = .full ∧
      ((after (.conversionEnd (some 106) 0) (converting 0 (consumerWith .blade { power := .on }))).sm.t.at 0).shutdown =
        true ∧
      ((after (.conversionEnd (some 106) 0) (converting 0 (consumerWith .blade { power := .on }))).sm.t.at 0).critical =
        true := by
  decide

/-- The blade of the spec's worked case: T0, T1 and T2 with targets, T3 without one; T1 at 71, T2 INVALID, T3 at 99. -/
def demanding : State :=
  let s := converting 0 (consumerWith .blade { power := .on })
  { s with
    lc := { s.lc with keys := { demandTarget := ⟨some 55, some 60, some 70, none⟩, demandSpan := ⟨10, 20, 40, 10⟩ } }
    sm := { s.sm with t := ⟨{}, { reading := .deg 71, demand := some 64 }, { reading := .invalid, demand := some 100 },
      { reading := .deg 99 }⟩ } }

/-- The worked case, a reading at the target, one far above it, and no channel with a target. -/
theorem witness_TConversionJudgesChannel_demand :
    ((after (.conversionEnd (some 58) 0) demanding).sm.t.x0.demand = some 44 ∧
        (after (.conversionEnd (some 58) 0) demanding).sm.ownDemand = some 100 ∧
        (after (.conversionEnd (some 58) 0) demanding).sm.hottest = some (.deg 71)) ∧
      (after (.conversionEnd (some 55) 0) demanding).sm.t.x0.demand = some 20 ∧
      (after (.conversionEnd (some 150) 0) demanding).sm.t.x0.demand = some 100 ∧
      (after (.conversionEnd none 0) demanding).sm.t.x0.demand = some 100 ∧
      ((converting 0 (station .blade .active)).lc.keys.demandTarget.at 0 = none ∧
        (after (.conversionEnd (some 58) 0) (converting 0 (station .blade .active))).sm.ownDemand = none) := by
  decide

/-- A supply with its power good and its V3 conversion ending, at an overload count, T0 reading 25 degrees or what it is
given for them. -/
def loaded (count : Nat) (t0 : Int → Reading) : State :=
  let s := converting 7 (supplyWith { state := .good, reported := 250, overload := count })
  { s with
    pins := { s.pins with powerGood := true }
    lc := { s.lc with keys := { s.lc.keys with rating := 250 } }
    sm := { s.sm with t := Quad.all { reading := t0 25 } } }

theorem witness_VConversionJudgesChannelAndSupply :
    (∀ k ∈ [0, 3],
      (converting (k + 4) (supplyWith {})).sm.conversion = .running 9 ∧
        (converting (k + 4) (supplyWith {})).sm.next = k + 4 ∧
        (converting (k + 4) (supplyWith {})).isRole .power = true ∧
        (converting (k + 4) (supplyWith {})).inLife .active = true ∧
        (converting (k + 4) (supplyWith {})).lc.phase = .noRemoval ∧
        (converting (k + 4) (supplyWith {})).sup.localOff = false) ∧
      (converting 4 (station .blade .active)).isRole .power = false ∧
      (supplyWith {}).pins.powerGood = false ∧
      (after (.conversionEnd none 1050) (loaded 0 .deg)).sup.state = .good ∧
      (after (.conversionEnd none 1050) (loaded 0 (fun _ => .invalid))).sup.state = .warm ∧
      (∀ n ∈ [0, 1, 2, 3],
        0 < (after (.conversionEnd none 1050) (loaded n .deg)).sup.reported ∧
          (after (.conversionEnd none 1050) (loaded n .deg)).sup.reported <
            ((after (.conversionEnd none 1050) (loaded n .deg)).sm.v.at 3).reading ∧
          (loaded n .deg).sup.guard.isRunning = false) ∧
      (after (.conversionEnd none 1050) (loaded 2 .deg)).bi.pulse.isRunning = true := by
  decide

theorem witness_FanTakesThermalEdgesAndBeats :
    ((hearing (entry .blade) (station .fan .active)).isRole .fan = true ∧
        (hearing (entry .blade) (station .fan .active)).hears 3 = true ∧
        slotGet (hearing (entry .blade) (station .fan .active)).ro.entries (3 : BitVec 6).toNat =
          some (entry .blade) ∧ (thermalPayload 100 .invalid).length = 3) ∧
      3 < (station .fan .active).lc.keys.rotorsFitted ∧
      ∃ (s : State) (due : Nat), s.isRole .fan = true ∧ s.bi.timerB = .running due ∧ s.inLife .active = true ∧
        s.lc.phase = .noRemoval ∧ 25000000 ≤ max s.now due - (s.fc.rotors.at 3).lastEdge.getD s.fc.settledAt :=
  ⟨by decide, by decide,
    { station .fan .active with bi := { rate := some .k250, txState := .enabled, timerB := .running 25000000 } },
    25000000, by decide⟩

/-- A tray at a beat at 500,000 ticks whose rotors have the same runs and last edge, with one view entry, a duty and a
sustained count. -/
def trayAt (l : Life) (r : Rotor) (demand age duty count : Nat) : State :=
  { station .fan l with
    bi := { rate := some .k250, txState := .enabled, timerB := .running 500000 }
    lc := { (station .fan l).lc with keys := { rotorsFitted := 3 } }
    fc := {
      view := [(3, { demand := demand, hottest := .invalid, age := age })]
      applied := duty
      rotors := Quad.all r
      sustained := count } }

/-- A rotor whose period is at the tach limit is good and one a microsecond above it SLOW; the third beat of a run turns the
fault state; the duty falls by 5 at most; the sustained flag is set at the limit. -/
theorem witness_FanTakesThermalEdgesAndBeats_beat :
    ((trayAt .active {} 60 2 97 0).isRole .fan = true ∧ (trayAt .active {} 60 2 97 0).bi.timerB = .running 500000 ∧
        (trayAt .active {} 60 2 97 0).lc.keys.tachLimit = 15000 ∧ (trayAt .active {} 60 2 97 0).lc.keys.sustainLimit = 2400) ∧
      ((after .beat (trayAt .active { lastEdge := some 499000, period := some 15000, failed := true, goodRun := 2 } 60 2
            97 0)).fc.rotors.at 2).failed = false ∧
      ((after .beat (trayAt .active { lastEdge := some 499000, period := some 15001, badRun := 2 } 60 2 97 0)).fc.rotors.at
            2).failed = true ∧
      ((after .beat (trayAt .active { lastEdge := some 499000, period := some 15001, badRun := 2 } 60 2 97 0)).fc.rotors.at
            3).failed = false ∧
      ((after .beat (trayAt .active { lastEdge := some 499000, period := some 9000 } 60 2 97 0)).fc.lastTarget = some 60 ∧
        (after .beat (trayAt .active { lastEdge := some 499000, period := some 9000 } 60 2 97 0)).fc.applied = 92) ∧
      ((after .beat (trayAt .active { lastEdge := some 499000 } 60 3 97 2399)).fc.lastTarget = some 100 ∧
        (after .beat (trayAt .active { lastEdge := some 499000 } 60 3 97 2399)).fc.sustainedFlag = true) ∧
      ((trayAt .removable {} 60 2 100 7).inLife .removable = true ∧
        (after .beat (trayAt .removable {} 60 2 100 7)).fc.sustained = 7) := by
  decide

/-! ### Uplink lanes -/

/-- An uplink ON at FULL that hears a blade in slot 3. -/
def uplink (x : Sequencer) (m : LaneManager) : State :=
  { hearing (entry .blade) (consumerWith .uplink x) with lm := m }

/-- An uplink ON at FULL that claims 30, with lane 0 FAULTED and a C_eff of the capacity less 20. -/
def lanesAt (capacity : Nat) : State :=
  { budgeted capacity { own 30 .full true with floor := 30 } (consumerWith .uplink { power := .on }) with
    lm := { lanes := [(0, .faulted)] } }

theorem witness_UplinkAnswersLaneFrames :
    (∀ p ∈ [PowerState.stopping, .claiming, .on],
      (uplink { power := p } {}).isRole .uplink = true ∧ (uplink { power := p } {}).inLife .active = true ∧
        (uplink { power := p } {}).lc.phase = .noRemoval ∧ (uplink { power := p } {}).hears 3 = true ∧
        slotGet (uplink { power := p } {}).ro.entries (3 : BitVec 6).toNat = some (entry .blade) ∧
        targetSlot [5, 4] = (uplink { power := p } {}).ownSlot ∧ ((uplink { power := p } {}).holder 3).answer = none ∧
        (uplink { power := p } {}).isReserving 3 = false) ∧
      ((uplink { power := .on } {}).isQueued 3 = false ∧
        lanesOf (uplink { power := .on } {}).lm.lanes 3 + max 1 (min 4 (byteAt [5, 4] 1)) ≤ 4 ∧
        4 < lanesOf (uplink { power := .on } { lanes := [(7, .granted 3)] }).lm.lanes 3 + max 1 (min 4 (byteAt [5, 4] 1)) ∧
        (uplink { power := .on } {}).lc.keys.drain ≠ 0) ∧
      (uplink { power := .on } { reservation := some { slot := 7, hold := .running 9 } }).isReserving 3 = false ∧
      (∀ cap ∈ [60, 59, 49],
        (lanesAt cap).ps.level = .full ∧ (lanesAt cap).ps.shedHold.isRunning = false ∧
          (∀ q ∈ (lanesAt cap).lm.lanes, q.2 = .faulted) ∧
          (List.range 16).filter (fun k => slotGet (lanesAt cap).lm.lanes k = none) =
            [1, 2, 3, 4, 5, 6, 7, 8, 9, 10, 11, 12, 13, 14, 15] ∧
          ((lanesAt cap).claimedAt 40 .full).ownMark = decide (cap = 60) ∧
          (((lanesAt cap).claimedAt 40 .full).claimedAt 30 .full).ownMark = decide (cap ≠ 49) ∧
          ((lanesAt cap).claimedAt 30 .floor).ownMark = decide (cap ≠ 49)) ∧
      (after (.laneRequestReceived 3 [5, 2]) (lanesAt 60)).lm.lanes =
        [(0, .faulted), (1, .reserved 3), (2, .reserved 3)] := by
  decide +kernel

/-- A removal report, an ANNOUNCE that leaves ON, and an own shed find lanes, a request or a reservation to give up. -/
theorem witness_UplinkAnswersLaneFrames_givenUp :
    (∀ m ∈ [LaneManager.mk [(0, .granted 3)] [] [] none, { queue := [⟨3, 1, 0⟩] },
        { lanes := [(0, .reserved 3)], reservation := some { slot := 3, hold := .running 9 } }],
      (uplink { power := .on } m).hears 3 = true ∧ (uplink { power := .on } m).lc.phase = .noRemoval ∧
        (uplink { power := .on } m).watchesPulses = true ∧
        slotGet (uplink { power := .on } m).ro.entries (3 : BitVec 6).toNat = some (entry .blade)) ∧
      ((entry .blade).power = some .on ∧ claimOf (uplink { power := .on } {}).bu.claims 3 = none ∧
        (readAnnounce (announcePayload { entry .blade with power := some .stopping })).power ≠ .on ∧
        (readAnnounce (announcePayload { entry .blade with power := some .stopping })).role = .blade ∧
        (readAnnounce (announcePayload { entry .blade with power := some .stopping })).claim = none) ∧
      (∀ m ∈ [LaneManager.mk [(0, .granted 3)] [] [] none, {}],
        (uplink { power := .on } m).isQueued 3 = false) ∧
      (uplink { power := .on } { queue := [⟨3, 1, 0⟩] }).isQueued 3 = true ∧
      (uplink { power := .on } { reservation := some { slot := 3, hold := .running 9 } }).isReserving 3 = true := by
  decide

theorem witness_UplinkLanesChangeState :
    ∀ m ∈ [LaneManager.mk [(0, .reserved 3)] [] [] (some { slot := 3, hold := .running 9 }),
        { lanes := [(0, .draining 3 (.running 9))] }, { lanes := [(15, .granted 3)] }, { lanes := [(15, .faulted)] }, {}],
      (uplink { power := .on } m).isRole .uplink = true ∧ (uplink { power := .on } m).inLife .active = true ∧
        (uplink { power := .on } m).lc.phase = .noRemoval ∧ (uplink { power := .on } m).lm.sound = true ∧
        (uplink { power := .on } m).lm.queue = [] ∧ (uplink { power := .on } m).ownMark = false ∧
        (holding (own 35 .full true) (uplink { power := .on } m)).ownMark = true ∧
        (uplink { power := .on } m).accepts (.setLaneFault 15 1) = true ∧
        (uplink { power := .on } m).accepts (.setLaneFault 15 0) = true := by
  decide

/-- A blade that is ON, hears an uplink in slot 3 and has a lane record for it. -/
def asking (r : LaneRecord) : State :=
  { hearing (entry .uplink) (consumerWith .blade { power := .on }) with lb := [(3, r)] }

theorem witness_BladeLaneRecordFollowsAnswers :
    ((asking {}).accepts (.requestLanes 3 255) = true ∧ (asking {}).isRole .blade = true ∧
        (asking {}).inLife .active = true ∧ (asking {}).lc.phase = .noRemoval ∧ (asking {}).ps.power = .on ∧
        (3 : Byte).toNat ≠ (asking {}).ownSlot ∧ (asking {}).presentAs 3 .uplink = true ∧
        (asking {}).pendingAt 3 = 0 ∧ (asking {}).recordFor 3 = true) ∧
      ((asking {}).accepts (.releaseLanes 47) = true ∧ (asking {}).recordFor 47 = true) ∧
      (slotGet (asking { pending := 1, window := .running 9, sent := true }).lb 3 =
          some { pending := 1, window := .running 9, sent := true } ∧
        slotGet (asking { pending := 1, window := .running 9, held := 3 }).lb 3 =
          some { pending := 1, window := .running 9, held := 3 }) ∧
      ((asking { pending := 1 }).hears 3 = true ∧
        slotGet (asking {}).ro.entries (3 : BitVec 6).toNat = some (entry .uplink) ∧
        targetSlot [5, 0, 0, 0, 3] = (asking {}).ownSlot ∧
        readGrant [5, 0, 0, 0, 3] = some (grantedAnswer, 3) ∧
        readGrant [5, 1, 4, 0, 0] = some (deniedBy .limit, 0) ∧
        readGrant [5, 2, 7, 0, 0] = some (revokedBy .laneFault, 0) ∧
        readGrant [5, 3, 0, 0, 0] = some (releasedAnswer, 0)) := by
  decide

/-- A blade that gives up a record while its lane outbox holds entries, the first of them already for that uplink. -/
def releasing (waiting : List LaneEntry) : State :=
  { asking { held := 2 } with bi := { (asking {}).bi with idle := false, lanes := waiting } }

/-- Entries for a LANE_RELEASE, none of them SENDING. -/
def releasesTo (ns : List Nat) : List LaneEntry := ns.map fun n => { kind := .release, target := n, sending := false }

/-- An outbox with one entry free, and a full one. -/
theorem witness_BladeLaneRecordFollowsAnswers_outbox :
    ∀ ns ∈ [[], [3, 7, 8], [3, 7, 8, 9]],
      (releasing (releasesTo ns)).accepts (.releaseLanes 3) = true ∧ (releasing (releasesTo ns)).isRole .blade = true ∧
        (releasing (releasesTo ns)).inLife .active = true ∧ (releasing (releasesTo ns)).lc.phase = .noRemoval ∧
        (releasing (releasesTo ns)).recordFor 3 = true ∧ (releasing (releasesTo ns)).takesPosts = true ∧
        (releasing (releasesTo ns)).bi.idle = false ∧ (releasing (releasesTo ns)).bi.lanes.length = ns.length := by
  decide

/-- A LANE_RELEASE takes the next free entry although one for that uplink is PENDING, and is flagged when the outbox is
full (R29, R164). -/
theorem test_releaseTakesNextEntry :
    (after (.releaseLanes 3) (releasing (releasesTo [3, 7, 8]))).bi.lanes = releasesTo [3, 7, 8, 3] ∧
      (slotGet (after (.releaseLanes 3) (releasing (releasesTo [3, 7, 8]))).lb 3).map (·.notify) = some false ∧
      (after (.releaseLanes 3) (releasing (releasesTo [3, 7, 8, 9]))).bi.lanes = releasesTo [3, 7, 8, 9] ∧
      (slotGet (after (.releaseLanes 3) (releasing (releasesTo [3, 7, 8, 9]))).lb 3).map (·.notify) = some true := by
  decide

/-! ### The local port -/

theorem witness_PortTransaction :
    (State.reset.pins.standby = true ∧ State.reset.pins.resetAsserted = false ∧ State.reset.lp.phase = .idle ∧
        State.reset.pins.chipSelect = false ∧ State.reset.lc.restartWait.isRunning = false) ∧
      (decodePacket [1] = some .sense ∧ packetRefused [1, 0] false = true ∧ packetRefused [99] false = true) ∧
      ({ State.reset with lp := { phase := .executing [1] } } : State).lp.phase.isExecuting = true ∧
      (after .chipSelectAsserted State.reset).lp.phase = .command ∧
      ((after .chipSelectAsserted (after .resetNAsserted State.reset)).lp.phase = .idle ∧
        (after .resetNReleased (after .chipSelectAsserted (after .resetNAsserted State.reset))).pins.unheard =
          true) ∧
      (after .chipSelectAsserted { State.reset with lp := { phase := .executing [1] } }).pins.unheard = false := by
  decide

/-- A FAN station in the wait of a restart, with RESET_N asserted and released in it. -/
def resetInWait : State :=
  after .resetNReleased (after .resetNAsserted
    { station .fan .active with
      lc := { (station .fan .active).lc with restartWait := .running 9000 }
      lp := { phase := .executing [6] } })

/-- In that wait a refused packet leaves IDLE with INVALID in the buffer, a packet that passes is not taken, and FETCH
answers NOT_READY (R14, R15, R182; log entry 71). -/
theorem test_packetsInWaitAfterReset :
    (resetInWait.pins.standby = true ∧ resetInWait.pins.resetAsserted = false ∧ resetInWait.pins.unheard = false ∧
        resetInWait.lp.phase = .idle ∧ resetInWait.lc.restartWait.isRunning = true) ∧
      (after (.commandInvalid [99] false) (after .chipSelectAsserted resetInWait)).lp.phase = .idle ∧
      (after (.commandInvalid [99] false) (after .chipSelectAsserted resetInWait)).lp.result = some [2] ∧
      (after (.packetTaken [1]) (after .chipSelectAsserted resetInWait)).lp.phase = .idle ∧
      (after (.packetTaken [1]) resetInWait).lp.result = none ∧
      (after (.fetch 2) (after (.commandInvalid [99] false) resetInWait)).lp.sdo = [1, 0] ∧
      (after .restartWaitEnd (after (.commandInvalid [99] false) resetInWait)).lp.result = none := by
  decide

/-- Two final records of one tag: record 1 is named (log entry 19). -/
theorem test_boxOfFinalPair :
    LocalPort.boxOf { box0 := { tag := 7, status := .sent }, box1 := { tag := 7, status := .failed } } 7 = some 1 ∧
      LocalPort.boxOf { box0 := { tag := 7, status := .pending }, box1 := { tag := 7, status := .pending } } 7 =
        some 0 := by
  decide

/-- The gate and the roles refuse a command in turn; under RESET_N none comes to its block. -/
theorem witness_PortTransaction_refusals :
    commandGate .powerOn = some (.other, notFan) ∧
      (State.reset.reaches .powerOn = true ∧ State.reset.removalDue = false ∧ State.reset.gate .other = false) ∧
      ((station .fan .active).reaches .powerOn = true ∧ (station .fan .active).gate .other = true ∧
        (station .fan .active).roleIn notFan = false) ∧
      (after .resetNAsserted (station .blade .active)).portPath .powerOn = none :=
  ⟨rfl, by decide, by decide, by decide⟩

theorem witness_SettingsAreTaken :
    ((station .blade .active).removalDue = false ∧ (station .blade .active).accepts .sense = true ∧
        (station .blade .active).accepts (.setMask 0xFFFF) = true) ∧
      (∀ l ∈ [Life.listen, .ready],
        (∀ x ∈ ([(.nA, 255), (.nA, 0), (.requested, 20), (.requested, 19), (.floorAmount, 41),
            (.serial, 9), (.redundancy, 2), (.redundancy, 3), (.mailBroadcast, 1), (.mailBroadcast, 2),
            (.demandSpan, 40), (.demandTarget, 0x7FFF), (.demandTarget, 65496), (.demandTarget, 151)] :
              List (ConfigKey × Word64)),
          (station .blade l).accepts (.configure x.1 3 x.2) = true ∧ (station .blade l).inLife l = true) ∧
        (station .fan l).accepts (.configure .ownDemandCounts 0 1) = true ∧
        (station .uplink l).accepts (.configure .baseAmount 0 321) = true ∧
        (station .uplink l).accepts (.configure .laneCost 0 24) = true) ∧
      (station .blade .active).accepts (.configure .nA 0 255) = true ∧
      (320 + 16 * (station .uplink .ready).lc.keys.laneCost = 400 ∧
        (station .uplink .ready).lc.keys.baseAmount + 16 * 23 ≤ 400 ∧
        400 < (station .uplink .ready).lc.keys.baseAmount + 16 * 24) ∧
      ((rangedKeys {}).map (fun x => x.2.2.2 {}) = (rangedKeys {}).map (fun x => max x.2.1 (min x.2.2.1 (x.2.2.2 {})))) ∧
      ((station .blade .active).accepts (.setLimits 3 80 79 80 150) = true ∧
        (79 : Half).toInt < (80 : Half).toInt ∧ (150 : Half).toInt ≤ 150 ∧
        (station .blade .active).accepts (.setLimits 3 80 80 80 150) = true ∧
        (station .blade .active).accepts (.setLimits 7 1500 0 0 0) = true ∧ (1500 : Half).toInt ≤ 1500 ∧
        (station .blade .active).accepts (.setLimits 7 1501 0 0 0) = true ∧ 1500 < (1501 : Half).toInt ∧
        (station .blade .active).accepts (.setLimits 8 0 0 0 0) = true) := by
  decide

theorem witness_ReadsAnswerTheirFields :
    (∀ c ∈ [Instr.readConfig, .readPower, .readBudget, .readClaims, .readLanes, .readChanges, .readBus 1,
        .readRoster 47, .readRoster 48, .readMonitor 7, .readMonitor 8],
      (station .blade .active).accepts c = true) ∧
      (station .blade .active).removalDue = false ∧ (station .fan .halted).accepts .readFan = true ∧
      ((station .fan .halted).inLife .halted = true ∧ (station .fan .active).inLife .halted = false) ∧
      ((station .power .active).isRole .power = true ∧ (station .blade .active).isRole .blade = true ∧
        (station .uplink .active).isRole .uplink = true) ∧
      (bladeOn.entryOf 3).isSome = true ∧ bladeOn.entryOf 47 = none ∧
      (station .blade .active).lc.straps ≠ none ∧ (station .blade .active).lc.life = some .active ∧
      ({ station .blade .active with ro := { ownPresent := true } } : State).entryOf 5 ≠ none := by
  decide

/-- A station with mail waiting to be sent or read. -/
def mailing (p : LocalPort) : State := { station .blade .active with lp := p }

def letter : MailItem := { source := 3, dest := 5, stranger := false, data := [] }

theorem witness_MailIsSentAndReceived :
    ((mailing {}).removalDue = false ∧ (mailing {}).accepts (.sendMail 63 1 [7]) = true ∧
        (mailing {}).mailDest 63 = true ∧ (mailing {}).mailDest 47 = true ∧ (mailing {}).mailFull = false ∧
        (mailing { box0 := { status := .pending }, box1 := { status := .sending } }).mailFull = true) ∧
      ((mailing {}).accepts (.abortMail 0) = true ∧ (mailing {}).lp.boxOf 0 = none ∧
        (mailing { box0 := { status := .sending } }).lp.boxOf 0 = some 0 ∧
        (mailing { box1 := { status := .pending } }).lp.boxOf 0 = some 1 ∧
        (mailing { box0 := { status := .sent } }).lp.boxOf 0 = some 0 ∧ MailStatus.sent.final = true) ∧
      ((mailing {}).hears 3 = true ∧ (mailing {}).mailForMe (targetSlot [5]) = true ∧
        (mailing {}).mailForMe (targetSlot [63]) = true ∧
        (mailing { mailQueue := List.replicate 7 letter }).lp.mailQueue.length < 8 ∧
        (mailing { mailQueue := List.replicate 8 letter }).lp.mailQueue.length = 8 ∧
        (mailing { overflow := true }).lp.overflow = true) ∧
      ((mailing {}).accepts .readMail = true ∧ (mailing {}).accepts .clearMailOverflow = true) := by
  decide

end Sys2Proof.Tests
end

section
/-! PROOF. The admitted prefix (R71): the length of the longest run from the front of the claim table that C_eff carries,
the marked table as that run and the rest, and the statement O41. -/

namespace Sys2Proof.Machine

/-! ## The longest run from the front -/

/-- The length of the longest run from the front whose amounts, added to `sum`, stay within C_eff. -/
def runLength (cEff : Nat) : Nat → List Claim → Nat
  | _, [] => 0
  | sum, c :: cs => if sum + c.amount ≤ cEff then runLength cEff (sum + c.amount) cs + 1 else 0

theorem runLength_le_length (cEff sum : Nat) (cs : List Claim) : runLength cEff sum cs ≤ cs.length := by
  induction cs generalizing sum with
  | nil => simp [runLength]
  | cons c cs ih =>
    simp only [runLength]
    split
    · simpa using ih (sum + c.amount)
    · simp

/-- The run fits: C_eff carries the starting sum and every amount of the run. -/
theorem sum_runLength_le {cEff sum : Nat} (cs : List Claim) (h : sum ≤ cEff) :
    sum + ((cs.take (runLength cEff sum cs)).map (·.amount)).sum ≤ cEff := by
  induction cs generalizing sum with
  | nil => simpa [runLength] using h
  | cons c cs ih =>
    simp only [runLength]
    split
    · next hfits => simpa [Nat.add_assoc] using ih hfits
    · simpa using h

/-- The run is the longest: where a claim stands after it, C_eff does not carry that one too. -/
theorem lt_sum_runLength_succ {cEff sum : Nat} {cs : List Claim} (h : runLength cEff sum cs < cs.length) :
    cEff < sum + ((cs.take (runLength cEff sum cs + 1)).map (·.amount)).sum := by
  induction cs generalizing sum with
  | nil => simp at h
  | cons c cs ih =>
    simp only [runLength] at h ⊢
    split at h
    · next hfits =>
      have hrest := ih (Nat.lt_of_succ_lt_succ h)
      simpa [hfits, Nat.add_assoc] using hrest
    · next hover => simpa [hover] using Nat.lt_of_not_le hover

/-! ## The marked table is the run and the rest -/

/-- A claim with its mark set; `Claim.plain` is the one with its mark cleared. -/
def Claim.granted (c : Claim) : Claim := { c with admitted := true }

@[simp] theorem Claim.granted_admitted (c : Claim) : c.granted.admitted = true := rfl

@[simp] theorem Claim.plain_admitted (c : Claim) : c.plain.admitted = false := rfl

/-- Once a claim did not fit, none after it is admitted. -/
theorem markClaims_false (cEff sum : Nat) (cs : List Claim) :
    markClaims cEff sum false cs = cs.map Claim.plain := by
  induction cs generalizing sum with
  | nil => rfl
  | cons c cs ih => simp [markClaims, Claim.plain, ih]

theorem markClaims_eq_run_append_rest (cEff sum : Nat) (cs : List Claim) :
    markClaims cEff sum true cs =
      (cs.take (runLength cEff sum cs)).map Claim.granted ++
        (cs.drop (runLength cEff sum cs)).map Claim.plain := by
  induction cs generalizing sum with
  | nil => rfl
  | cons c cs ih =>
    simp only [markClaims, runLength, Bool.true_and]
    split
    · next hfits => simp [hfits, ih, Claim.granted]
    · next hover => simp [hover, markClaims_false, Claim.plain]

/-- The admitted claims of the marked table are its first ones, as many as the run has. -/
theorem filter_admitted_markClaims (cEff sum : Nat) (cs : List Claim) :
    (markClaims cEff sum true cs).filter (·.admitted) = (markClaims cEff sum true cs).take (runLength cEff sum cs) := by
  have hlen : ((cs.take (runLength cEff sum cs)).map Claim.granted).length = runLength cEff sum cs := by
    simp [runLength_le_length]
  have hrun : ((cs.take (runLength cEff sum cs)).map Claim.granted).filter (·.admitted) =
      (cs.take (runLength cEff sum cs)).map Claim.granted :=
    List.filter_eq_self.mpr (List.forall_mem_map.mpr fun c _ => c.granted_admitted)
  have hrest : ((cs.drop (runLength cEff sum cs)).map Claim.plain).filter (·.admitted) = [] :=
    List.filter_eq_nil_iff.mpr (List.forall_mem_map.mpr fun c _ => by simp)
  rw [markClaims_eq_run_append_rest, List.take_left' hlen, List.filter_append, hrun, hrest, List.append_nil]

/-- A claim of the marked table is admitted exactly where its place lies in the run. -/
theorem markClaims_admitted_iff {cEff sum i : Nat} {cs : List Claim} {c : Claim}
    (h : (markClaims cEff sum true cs)[i]? = some c) : c.admitted = true ↔ i < runLength cEff sum cs := by
  have hle := runLength_le_length cEff sum cs
  rw [markClaims_eq_run_append_rest, List.getElem?_append] at h
  simp only [List.length_map, List.length_take, Nat.min_eq_left hle] at h
  split at h
  · next hin =>
    obtain ⟨x, -, rfl⟩ := List.mem_map.mp (List.mem_of_getElem? h)
    simp [hin]
  · next hout =>
    obtain ⟨x, -, rfl⟩ := List.mem_map.mp (List.mem_of_getElem? h)
    simp [hout]

/-- Marking leaves the amounts of every run from the front. -/
theorem map_amount_take_markClaims (cEff sum n : Nat) (b : Bool) (cs : List Claim) :
    ((markClaims cEff sum b cs).take n).map (·.amount) = (cs.take n).map (·.amount) := by
  simp only [List.map_take, markClaims_map (fun c : Claim => c.amount) (fun _ _ => rfl)]

theorem length_markClaims (cEff sum : Nat) (b : Bool) (cs : List Claim) :
    (markClaims cEff sum b cs).length = cs.length := by
  simpa using congrArg List.length (markClaims_map Claim.slot (fun _ _ => rfl) cEff sum b cs)

/-! ## What a recompute leaves of it -/

/-- A recompute marks the table with the C_eff it has just worked out. -/
theorem recomputed_claims (s : State) :
    s.recomputed.claims = markClaims s.recomputed.stages.cEff 0 true s.bu.claims := rfl

/-- The prefix length a recompute reports is the length of the run. -/
theorem recomputed_prefixLen (s : State) :
    s.recomputed.stages.prefixLen = runLength s.recomputed.stages.cEff 0 s.bu.claims := by
  simp [State.recomputed, admittedCount, filter_admitted_markClaims, length_markClaims, runLength_le_length]

/-- The prefix sum a recompute reports is the sum of the run. -/
theorem recomputed_prefixSum (s : State) :
    s.recomputed.stages.prefixSum =
      ((s.bu.claims.take (runLength s.recomputed.stages.cEff 0 s.bu.claims)).map (·.amount)).sum := by
  rw [← map_amount_take_markClaims s.recomputed.stages.cEff 0 _ true, ← filter_admitted_markClaims]
  rfl

/-- A recompute writes nothing outside BU and LP. -/
theorem recompute_eq_bu_lp (s : State) : recompute s = { s with bu := (recompute s).bu, lp := (recompute s).lp } := by
  have hframe := recompute_frame s
  generalize recompute s = t at hframe ⊢
  cases t
  simp_all

end Sys2Proof.Machine

namespace Sys2Proof.Proofs

open Sys2Proof Sys2Proof.Machine

/-- Settles O41: the claims a recompute marks are the run of `runLength`, which fits and cannot be made longer. -/
theorem admittedPrefixIsLongestRun : Obligations.AdmittedPrefixIsLongestRun := by
  rintro s t rfl
  refine ⟨?_, ?_, recompute_eq_bu_lp s⟩
  · rw [recompute_bu, recomputed_claims]
    simp only [length_markClaims, map_amount_take_markClaims]
    have hfits := sum_runLength_le s.bu.claims (Nat.zero_le s.recomputed.stages.cEff)
    rw [Nat.zero_add] at hfits
    refine ⟨runLength s.recomputed.stages.cEff 0 s.bu.claims, runLength_le_length _ _ _,
      fun i c => markClaims_admitted_iff, hfits, fun hshort => ?_, recomputed_prefixLen s, recomputed_prefixSum s⟩
    simpa using lt_sum_runLength_succ hshort
  · rw [recompute_bu]
    exact markClaims_map Claim.plain (fun _ _ => rfl) _ _ _ _

end Sys2Proof.Proofs
end

section
/-! PROOF. The law of power (R81) against the rank order of the claim table (R62): `State.powerLawful` bounds no slot
number, so two claims may share a rank, and a claim that PS writes again at the same amount is then entered behind the
other, where C_eff may no longer carry it. The refutation of O13, with a slot of 64 or above in the roster: R24 lets no
frame enter such a slot, but the law itself does not say so. -/

namespace Sys2Proof.Machine

/-! ## Two claims of one rank -/

/-- The own claim of a blade in slot 5, ON at FLOOR, while a LEVEL raise tries the FULL amount of 40 (R99). -/
def raisingClaim : Claim :=
  { slot := 5, cls := .ranked, priority := 4, amount := 40, floor := 20, level := .floor, admitted := true }

/-- The same claim as PS writes it when the raise ends admitted: only the level field differs (R100). -/
def raisedClaim : Claim := { raisingClaim with level := .full, admitted := false }

/-- A claim of the same rank, of slot 69 with the priority number one lower. -/
def rivalClaim : Claim :=
  { slot := 69, cls := .ranked, priority := 3, amount := 40, floor := 20, level := .full, admitted := false }

theorem rivalClaim_rank : rivalClaim.rank = raisedClaim.rank := by decide

/-- A claim is entered behind every claim whose rank is not above its own, one of its own rank included. -/
theorem insertClaim_behind {c x : Claim} (h : x.rank ≤ c.rank) (xs : List Claim) :
    insertClaim c (x :: xs) = x :: insertClaim c xs := by
  simp [insertClaim, Nat.not_lt.mpr h]

/-! ## The blade whose raise ends -/

/-- A blade in slot 5, ON at FLOOR in ACTIVE, in a LEVEL raise whose hold-off ends at moment 500; its roster holds a supply of
capacity 80 in slot 3 and the rival's blade in slot 69. Its stages are those of this roster, C_eff 60. -/
def raisingBlade : State :=
  { State.reset with
    pending := [.raiseHoldOffEnd]
    lc := {
      life := some .active
      straps := some { role := .blade, rate := .k250, attended := true, capCode := none, feed := none, slot := 5 } }
    ro := {
      entries := [
        (3, { role := .power, supply := some { capacity := 80, state := .good, feed := .a } }),
        (69, { role := .blade, claim := some rivalClaim.part })]
      ownPresent := true }
    bu := {
      claims := [raisingClaim, rivalClaim]
      stages := {
        n := 1, sum := 80, largest := 80, sumA := 80, s := 80, lost := true, cd := 80, cEff := 60, prefixLen := 1,
        prefixSum := 40 } }
    ps := { power := .on, level := .floor, raise := .level, raiseHold := .running 500 } }

theorem raisingBlade_energisedLawfully : raisingBlade.energisedLawfully := fun _ => by decide

theorem raisingBlade_claimsFollowRoster : raisingBlade.claimsFollowRoster := by
  refine ⟨fun n hn => ?_, by decide⟩
  have hown : ¬ 5 = n := fun h => hn h.symm
  by_cases hsupply : 3 = n
  · subst hsupply; decide
  · by_cases hrival : 69 = n
    · subst hrival; decide
    · simp [raisingBlade, raisingClaim, rivalClaim, claimOf, slotGet, hown, hsupply, hrival]

theorem raisingBlade_raiseFits : raisingBlade.raiseFits :=
  ⟨by decide, by decide, fun n h => Raise.noConfusion (show Raise.level = .amount n from h), by decide, by decide,
    by decide⟩

theorem raisingBlade_powerFits : raisingBlade.powerFits := fun _ =>
  ⟨⟨by decide, by decide, by decide, by decide⟩, raisingBlade_raiseFits, by decide, by decide⟩

theorem raisingBlade_powerLawful : raisingBlade.powerLawful :=
  ⟨raisingBlade_energisedLawfully, by decide, by decide, raisingBlade_claimsFollowRoster, ⟨by decide, by decide⟩,
    raisingBlade_powerFits⟩

/-- The blade after its raise has ended admitted. -/
def raisedBlade : State := levelRaised { raisingBlade with pending := [], now := 500 }

/-- The command is that end of the raise and no more: no removal is due, the line is busy and no COOLDOWN is entered. -/
theorem step_raisingBlade : step raisingBlade = .next raisedBlade := rfl

/-- The rewritten claim now stands behind the rival, whose amount leaves it no room in a C_eff of 60. -/
theorem raisedBlade_claims : raisedBlade.bu.claims = [{ rivalClaim with admitted := true }, raisedClaim] :=
  calc raisedBlade.bu.claims
    _ = markClaims 60 0 true (insertClaim raisedClaim [rivalClaim]) := by decide
    _ = markClaims 60 0 true [rivalClaim, raisedClaim] := by
      rw [insertClaim_behind (Nat.le_of_eq rivalClaim_rank), insertClaim]
    _ = [{ rivalClaim with admitted := true }, raisedClaim] := by decide

theorem raisedBlade_ownMark : raisedBlade.ownMark = false := by
  have hslot : raisedBlade.ownSlot = 5 := rfl
  rw [State.ownMark, State.ownClaim, raisedBlade_claims, hslot]
  rfl

theorem raisedBlade_not_energisedLawfully : ¬ raisedBlade.energisedLawfully := by
  intro h
  obtain ⟨-, hmark⟩ := h (by decide)
  have hlost := hmark (by decide)
  rw [raisedBlade_ownMark] at hlost
  exact Bool.false_ne_true hlost

end Sys2Proof.Machine

namespace Sys2Proof.Proofs

open Sys2Proof Sys2Proof.Machine

/-- Refutes O13: `raisingBlade` meets the law with all that is to make it last, and its RAISE_HOLD_OFF_END leaves the blade
ON with its claim not admitted, since the claim of slot 69 shares its rank. -/
theorem not_energisedClaimIsAdmitted : ¬ Obligations.EnergisedClaimIsAdmitted := by
  rintro ⟨-, -, hkeeps⟩
  obtain ⟨hlaw, -⟩ := hkeeps raisingBlade raisedBlade raisingBlade_powerLawful step_raisingBlade
  exact raisedBlade_not_energisedLawfully hlaw

end Sys2Proof.Proofs
end
